-- ==== Sys2Proof/Word.lean ====
section
/-! DEFINITION. The word types of the engine: 64-bit payload, data and cycle words, 32-bit header words and bytes
(00_scope.md R7 `WORD`, 30_encoding.md R110, R111). -/

namespace Sys2Proof

/-- A payload word, data word, address, PC, cycle or sequence number: 64 bits (00_scope.md R7). -/
abbrev Word := BitVec 64

/-- A command header or a response word: 32 bits (30_encoding.md R111, R117). -/
abbrev Header := BitVec 32

/-- One byte of the external memory. -/
abbrev Byte := BitVec 8

/-- "−1" as a 64-bit data word (00_scope.md R9). -/
def minusOne : Word := 0xFFFFFFFFFFFFFFFF

/-- `NOT_READY`, the "not yet ready" timestamp `2^64 - 1` (00_scope.md R7, 10_state.md R32). -/
def notReady : Word := 0xFFFFFFFFFFFFFFFF

end Sys2Proof
end

