-- ==== Sys2Proof/Syntax.lean ====
section
/-! DEFINITION. The commands of the engine, one constructor per row of the opcode map (30_encoding.md R113), and the form
they have on the command port (R110). -/

namespace Sys2Proof

/-- The buffer select `B`: 0 ROB, 1 LSQ (30_encoding.md R111). -/
inductive Buf where
  | rob
  | lsq
  deriving DecidableEq, Repr, Inhabited

/-- The wakeup-queue number `Q`: 0 waiting, 1 issue/execute, 2 event/writeback, 3 ready (30_encoding.md R111). -/
inductive Queue where
  | waiting
  | issueExec
  | event
  | ready
  deriving DecidableEq, Repr, Inhabited

/-- The ten payload words of DISPATCH, in their order p0 to p9 (30_encoding.md R115). -/
structure DispatchWords where
  opcode : Word
  pc : Word
  nextPc : Word
  predPc : Word
  archreg : Word
  stackRecoverIdx : Word
  shadowValue : Word
  memAddr : Word
  memSize : Word
  shadowMem : Word
  deriving DecidableEq, Repr, Inhabited

/-- The commands, one constructor per row of spec/opcode_table.json. `ctx` and `core` are the header's `CTX` and `CORE`,
`q` the `Q` field (a register bank where it is two raw bits), `b` the `B` bit, `m` the misprediction flag of ROLLBACK_TO
(30_encoding.md R111, R113, R115). -/
inductive Instr where
  | nop
  | dispatch (ctx : BitVec 8) (p : DispatchWords)
  | markQueued (ctx : BitVec 8) (b : Buf) (slot gen : Word)
  | issue (ctx : BitVec 8) (b : Buf) (slot gen : Word)
  | complete (ctx : BitVec 8) (b : Buf) (slot gen : Word)
  | commit (ctx : BitVec 8)
  | rollbackTo (ctx : BitVec 8) (m : Bool) (slot gen : Word)
  | flushContext (ctx : BitVec 8)
  | addContext (ctx core : BitVec 8)
  | ejectContext (ctx : BitVec 8)
  | transferContext (ctx core : BitVec 8)
  | findFreePhysreg (core : BitVec 8) (q : BitVec 2)
  | prfSetReady (core : BitVec 8) (q : BitVec 2) (index ready spec : Word)
  | prfRead (core : BitVec 8) (q : BitVec 2) (index : Word)
  | renameRead (ctx : BitVec 8) (archreg : Word)
  | wqInsert (core ctx : BitVec 8) (q : Queue) (b : Buf) (slot gen key : Word)
  | wqPop (core : BitVec 8) (q : Queue)
  | wqRemove (core ctx : BitVec 8) (q : Queue) (b : Buf) (slot gen : Word)
  | ifqPush (ctx : BitVec 8) (pc payload : Word)
  | ifqPop (ctx : BitVec 8)
  | wregRead (ctx : BitVec 8) (archreg : Word)
  | wregWrite (ctx : BitVec 8) (archreg value : Word)
  | setFetchPc (ctx : BitVec 8) (pc : Word)
  | entryRead (ctx : BitVec 8) (b : Buf) (slot : Word)
  | ctxStatus (ctx : BitVec 8)
  | coreStatus (core : BitVec 8)
  | fatalStatus
  deriving DecidableEq, Repr, Inhabited

/-- The payload lanes of one transaction. A command takes the first ones, as many as 30_encoding.md R119 gives its `OP`, and
looks at no other lane (DESIGN CHOICE, safe: notes/assumptions/4.md). -/
structure Payload where
  p0 : Word
  p1 : Word
  p2 : Word
  p3 : Word
  p4 : Word
  p5 : Word
  p6 : Word
  p7 : Word
  p8 : Word
  p9 : Word
  deriving DecidableEq, Repr, Inhabited

/-- A command as it stands on the port: the header word and the payload lanes (30_encoding.md R110). -/
structure Command where
  header : Header
  payload : Payload
  deriving DecidableEq, Repr, Inhabited

end Sys2Proof
end

