-- ==== Sys2Proof/Decode.lean ====
section
/-! DEFINITION. The decoder of the command port (30_encoding.md R111 to R116, R119), total on every header and payload, and
the encoder written from the same opcode map. -/

namespace Sys2Proof

/-- Why a header is no command (30_encoding.md R112, R114). -/
inductive DecodeError where
  /-- `OP` is 0x1B to 0x3F. -/
  | badOpcode
  /-- a reserved bit, or a field the command does not use, is nonzero. -/
  | reservedBits
  deriving DecidableEq, Repr

/-- The `OP` field, bits 5:0. -/
def headerOp (h : Header) : BitVec 6 := h.extractLsb' 0 6

/-- The `Q` field, bits 7:6. -/
def headerQ (h : Header) : BitVec 2 := h.extractLsb' 6 2

/-- The `B` bit, bit 8. -/
def headerB (h : Header) : BitVec 1 := h.extractLsb' 8 1

/-- The `CTX` field, bits 23:16. -/
def headerCtx (h : Header) : BitVec 8 := h.extractLsb' 16 8

/-- The `CORE` field, bits 31:24. -/
def headerCore (h : Header) : BitVec 8 := h.extractLsb' 24 8

/-- The header with the given fields: `KKKKKKKK XXXXXXXX 0000000B QQOOOOOO` (30_encoding.md R111). -/
def headerOf (core ctx : BitVec 8) (b : BitVec 1) (q : BitVec 2) (op : BitVec 6) : Header :=
  core ++ ctx ++ (0 : BitVec 7) ++ b ++ q ++ op

/-- The buffer a `B` bit selects: 0 ROB, 1 LSQ. -/
def Buf.ofBit (b : BitVec 1) : Buf := if b = 0 then .rob else .lsq

/-- The `B` bit of a buffer. -/
def Buf.bit : Buf → BitVec 1
  | .rob => 0
  | .lsq => 1

/-- The queue a `Q` field names. -/
def Queue.ofBits (q : BitVec 2) : Queue :=
  if q = 0 then .waiting else if q = 1 then .issueExec else if q = 2 then .event else .ready

/-- The `Q` field of a queue. -/
def Queue.bits : Queue → BitVec 2
  | .waiting => 0
  | .issueExec => 1
  | .event => 2
  | .ready => 3

/-- The misprediction flag `M` in the `B` bit of ROLLBACK_TO. -/
def flagBit (m : Bool) : BitVec 1 := if m then 1 else 0

/-- The flag a `B` bit holds. -/
def flagOfBit (b : BitVec 1) : Bool := decide (b = 1)

/-- One row of the opcode map: its number, its mask, and its payload words (30_encoding.md R113, R119). -/
structure Row where
  op : BitVec 6
  mask : Header
  payloadWords : Nat
  deriving DecidableEq, Repr

/-- The `match` value of a row: every field but `OP` is 0. -/
def Row.bits (r : Row) : Header := r.op.setWidth 32

/-- The row of the opcode map that a command belongs to (30_encoding.md R113, R119). -/
def Instr.row : Instr → Row
  | .nop => ⟨0x00, 0xFFFFFFFF, 0⟩
  | .dispatch _ _ => ⟨0x01, 0xFF00FFFF, 10⟩
  | .markQueued _ _ _ _ => ⟨0x02, 0xFF00FEFF, 2⟩
  | .issue _ _ _ _ => ⟨0x03, 0xFF00FEFF, 2⟩
  | .complete _ _ _ _ => ⟨0x04, 0xFF00FEFF, 2⟩
  | .commit _ => ⟨0x05, 0xFF00FFFF, 0⟩
  | .rollbackTo _ _ _ _ => ⟨0x06, 0xFF00FEFF, 2⟩
  | .flushContext _ => ⟨0x07, 0xFF00FFFF, 0⟩
  | .addContext _ _ => ⟨0x08, 0x0000FFFF, 0⟩
  | .ejectContext _ => ⟨0x09, 0xFF00FFFF, 0⟩
  | .transferContext _ _ => ⟨0x0A, 0x0000FFFF, 0⟩
  | .findFreePhysreg _ _ => ⟨0x0B, 0x00FFFF3F, 0⟩
  | .prfSetReady _ _ _ _ _ => ⟨0x0C, 0x00FFFF3F, 3⟩
  | .prfRead _ _ _ => ⟨0x0D, 0x00FFFF3F, 1⟩
  | .renameRead _ _ => ⟨0x0E, 0xFF00FFFF, 1⟩
  | .wqInsert _ _ _ _ _ _ _ => ⟨0x0F, 0x0000FE3F, 3⟩
  | .wqPop _ _ => ⟨0x10, 0x00FFFF3F, 0⟩
  | .wqRemove _ _ _ _ _ _ => ⟨0x11, 0x0000FE3F, 2⟩
  | .ifqPush _ _ _ => ⟨0x12, 0xFF00FFFF, 2⟩
  | .ifqPop _ => ⟨0x13, 0xFF00FFFF, 0⟩
  | .wregRead _ _ => ⟨0x14, 0xFF00FFFF, 1⟩
  | .wregWrite _ _ _ => ⟨0x15, 0xFF00FFFF, 2⟩
  | .setFetchPc _ _ => ⟨0x16, 0xFF00FFFF, 1⟩
  | .entryRead _ _ _ => ⟨0x17, 0xFF00FEFF, 1⟩
  | .ctxStatus _ => ⟨0x18, 0xFF00FFFF, 0⟩
  | .coreStatus _ => ⟨0x19, 0x00FFFFFF, 0⟩
  | .fatalStatus => ⟨0x1A, 0xFFFFFFFF, 0⟩

/-- The command that a header's `OP` and fields name, its other bits not yet checked; `none` for an unassigned `OP`
(30_encoding.md R113, R115). -/
def candidate (h : Header) (p : Payload) : Option Instr :=
  match (headerOp h).toNat with
  | 0x00 => some .nop
  | 0x01 => some (.dispatch (headerCtx h) ⟨p.p0, p.p1, p.p2, p.p3, p.p4, p.p5, p.p6, p.p7, p.p8, p.p9⟩)
  | 0x02 => some (.markQueued (headerCtx h) (Buf.ofBit (headerB h)) p.p0 p.p1)
  | 0x03 => some (.issue (headerCtx h) (Buf.ofBit (headerB h)) p.p0 p.p1)
  | 0x04 => some (.complete (headerCtx h) (Buf.ofBit (headerB h)) p.p0 p.p1)
  | 0x05 => some (.commit (headerCtx h))
  | 0x06 => some (.rollbackTo (headerCtx h) (flagOfBit (headerB h)) p.p0 p.p1)
  | 0x07 => some (.flushContext (headerCtx h))
  | 0x08 => some (.addContext (headerCtx h) (headerCore h))
  | 0x09 => some (.ejectContext (headerCtx h))
  | 0x0A => some (.transferContext (headerCtx h) (headerCore h))
  | 0x0B => some (.findFreePhysreg (headerCore h) (headerQ h))
  | 0x0C => some (.prfSetReady (headerCore h) (headerQ h) p.p0 p.p1 p.p2)
  | 0x0D => some (.prfRead (headerCore h) (headerQ h) p.p0)
  | 0x0E => some (.renameRead (headerCtx h) p.p0)
  | 0x0F => some (.wqInsert (headerCore h) (headerCtx h) (Queue.ofBits (headerQ h)) (Buf.ofBit (headerB h)) p.p0 p.p1 p.p2)
  | 0x10 => some (.wqPop (headerCore h) (Queue.ofBits (headerQ h)))
  | 0x11 => some (.wqRemove (headerCore h) (headerCtx h) (Queue.ofBits (headerQ h)) (Buf.ofBit (headerB h)) p.p0 p.p1)
  | 0x12 => some (.ifqPush (headerCtx h) p.p0 p.p1)
  | 0x13 => some (.ifqPop (headerCtx h))
  | 0x14 => some (.wregRead (headerCtx h) p.p0)
  | 0x15 => some (.wregWrite (headerCtx h) p.p0 p.p1)
  | 0x16 => some (.setFetchPc (headerCtx h) p.p0)
  | 0x17 => some (.entryRead (headerCtx h) (Buf.ofBit (headerB h)) p.p0)
  | 0x18 => some (.ctxStatus (headerCtx h))
  | 0x19 => some (.coreStatus (headerCore h))
  | 0x1A => some .fatalStatus
  | _ => none

/-- The decoder: the row is selected by `OP`, and a header that does not match the row's `match` under its `mask` is
refused (30_encoding.md R112, R113, R114). -/
def decode (c : Command) : Except DecodeError Instr :=
  match candidate c.header c.payload with
  | none => .error .badOpcode
  | some i => if c.header &&& i.row.mask = i.row.bits then .ok i else .error .reservedBits

/-- The header word of a command (30_encoding.md R111, R113): the fields the command does not use are 0. -/
def Instr.header (i : Instr) : Header :=
  match i with
  | .nop => headerOf 0 0 0 0 i.row.op
  | .dispatch c _ => headerOf 0 c 0 0 i.row.op
  | .markQueued c b _ _ => headerOf 0 c b.bit 0 i.row.op
  | .issue c b _ _ => headerOf 0 c b.bit 0 i.row.op
  | .complete c b _ _ => headerOf 0 c b.bit 0 i.row.op
  | .commit c => headerOf 0 c 0 0 i.row.op
  | .rollbackTo c m _ _ => headerOf 0 c (flagBit m) 0 i.row.op
  | .flushContext c => headerOf 0 c 0 0 i.row.op
  | .addContext c k => headerOf k c 0 0 i.row.op
  | .ejectContext c => headerOf 0 c 0 0 i.row.op
  | .transferContext c k => headerOf k c 0 0 i.row.op
  | .findFreePhysreg k q => headerOf k 0 0 q i.row.op
  | .prfSetReady k q _ _ _ => headerOf k 0 0 q i.row.op
  | .prfRead k q _ => headerOf k 0 0 q i.row.op
  | .renameRead c _ => headerOf 0 c 0 0 i.row.op
  | .wqInsert k c q b _ _ _ => headerOf k c b.bit q.bits i.row.op
  | .wqPop k q => headerOf k 0 0 q.bits i.row.op
  | .wqRemove k c q b _ _ => headerOf k c b.bit q.bits i.row.op
  | .ifqPush c _ _ => headerOf 0 c 0 0 i.row.op
  | .ifqPop c => headerOf 0 c 0 0 i.row.op
  | .wregRead c _ => headerOf 0 c 0 0 i.row.op
  | .wregWrite c _ _ => headerOf 0 c 0 0 i.row.op
  | .setFetchPc c _ => headerOf 0 c 0 0 i.row.op
  | .entryRead c b _ => headerOf 0 c b.bit 0 i.row.op
  | .ctxStatus c => headerOf 0 c 0 0 i.row.op
  | .coreStatus k => headerOf k 0 0 0 i.row.op
  | .fatalStatus => headerOf 0 0 0 0 i.row.op

/-- A payload of the given first three words, every other lane 0. -/
def Payload.ofWords (a b c : Word) : Payload := ⟨a, b, c, 0, 0, 0, 0, 0, 0, 0⟩

/-- The payload of a command, its words in the order of 30_encoding.md R115, the lanes it does not take 0. -/
def Instr.payload : Instr → Payload
  | .nop => Payload.ofWords 0 0 0
  | .dispatch _ d => ⟨d.opcode, d.pc, d.nextPc, d.predPc, d.archreg, d.stackRecoverIdx, d.shadowValue, d.memAddr, d.memSize,
      d.shadowMem⟩
  | .markQueued _ _ i g => Payload.ofWords i g 0
  | .issue _ _ i g => Payload.ofWords i g 0
  | .complete _ _ i g => Payload.ofWords i g 0
  | .commit _ => Payload.ofWords 0 0 0
  | .rollbackTo _ _ i g => Payload.ofWords i g 0
  | .flushContext _ => Payload.ofWords 0 0 0
  | .addContext _ _ => Payload.ofWords 0 0 0
  | .ejectContext _ => Payload.ofWords 0 0 0
  | .transferContext _ _ => Payload.ofWords 0 0 0
  | .findFreePhysreg _ _ => Payload.ofWords 0 0 0
  | .prfSetReady _ _ p r s => Payload.ofWords p r s
  | .prfRead _ _ p => Payload.ofWords p 0 0
  | .renameRead _ a => Payload.ofWords a 0 0
  | .wqInsert _ _ _ _ i g k => Payload.ofWords i g k
  | .wqPop _ _ => Payload.ofWords 0 0 0
  | .wqRemove _ _ _ _ i g => Payload.ofWords i g 0
  | .ifqPush _ pc w => Payload.ofWords pc w 0
  | .ifqPop _ => Payload.ofWords 0 0 0
  | .wregRead _ a => Payload.ofWords a 0 0
  | .wregWrite _ a v => Payload.ofWords a v 0
  | .setFetchPc _ pc => Payload.ofWords pc 0 0
  | .entryRead _ _ i => Payload.ofWords i 0 0
  | .ctxStatus _ => Payload.ofWords 0 0 0
  | .coreStatus _ => Payload.ofWords 0 0 0
  | .fatalStatus => Payload.ofWords 0 0 0

/-- The encoder: a command as it is put on the port. -/
def encode (i : Instr) : Command := ⟨i.header, i.payload⟩

/-- The payload lanes of which the first `n` are kept and the others are 0: what a command of `n` payload words takes
from the port (30_encoding.md R119). -/
def Payload.take (p : Payload) (n : Nat) : Payload :=
  let lane := fun (k : Nat) (w : Word) => if k < n then w else 0
  ⟨lane 0 p.p0, lane 1 p.p1, lane 2 p.p2, lane 3 p.p3, lane 4 p.p4, lane 5 p.p5, lane 6 p.p6, lane 7 p.p7, lane 8 p.p8,
    lane 9 p.p9⟩

/-- A command read from one number: the header is its low 32 bits, payload lane `k` the 64 bits from bit `32 + 64k` on. -/
def commandOfNat (w : Nat) : Command :=
  let lane := fun (k : Nat) => BitVec.ofNat 64 (w >>> (32 + 64 * k))
  ⟨BitVec.ofNat 32 w, ⟨lane 0, lane 1, lane 2, lane 3, lane 4, lane 5, lane 6, lane 7, lane 8, lane 9⟩⟩

/-- The command that the decoder reads from the low `nbits` bits of `w`, every bit above them 0. -/
def decodeTableWord (nbits w : Nat) : Option Instr :=
  (decode (commandOfNat (w % 2 ^ nbits))).toOption

end Sys2Proof
end

