-- ==== Sys2Proof/Config.lean ====
section
/-! DEFINITION. What an implementation fixes: the parameters of 00_scope.md R7 as plain data, the example configuration of
95_test_vectors.md section 0, and the one free value that every open choice of the spec is drawn from. -/

namespace Sys2Proof.Config

/-- NONE, INT, FP: the `dest_type` of `CLASSIFY` and the `dest_format` of an entry (10_state.md R39, 40_dispatch_rename.md R150).
That a source type of `CLASSIFY` is one of the same three is the model's own (see `OpClass`). -/
inductive OpType where
  | none
  | int
  | fp
  deriving DecidableEq, Repr, Inhabited

/-- The tuple `CLASSIFY` gives for an opcode (40_dispatch_rename.md R150). The engine reads `dest`, `isLoad` and `isStore` only.
R150 says which values `dest_type` takes and says nothing of the values of `src1_type` and `src2_type`: in every configuration the
model takes the same three for them (DESIGN CHOICE, safe: notes/assumptions/19.md). -/
structure OpClass where
  src1 : OpType
  src2 : OpType
  dest : OpType
  isLoad : Bool
  isStore : Bool
  deriving DecidableEq, Repr, Inhabited

/-- The capacity template of one slot of one core, `SLOT_CFG[core][slot]` (00_scope.md R7). -/
structure SlotTemplate where
  robCap : Nat
  lsqCap : Nat
  ifqCap : Nat
  predHandle : Word
  deriving DecidableEq, Repr, Inhabited

/-- The parameters of 00_scope.md R7. `CLASSIFY` is a finite table with a default, which holds every total function of a
64-bit opcode (DESIGN CHOICE, safe: notes/assumptions/2.md). -/
structure Params where
  numCores : Nat
  numContexts : Nat
  maxContexts : Nat
  prfBankSize : Nat
  maxCap : Nat
  /-- `SLOT_CFG`, one row of templates per core. -/
  slotCfg : List (List SlotTemplate)
  /-- `IQ_CAP`, one capacity per core. -/
  iqCap : List Nat
  mispredPenalty : Word
  penaltyOnAllRollbacks : Bool
  classTable : List (Word × OpClass)
  classDefault : OpClass
  deriving DecidableEq, Repr, Inhabited

/-- The constraints of 00_scope.md R7 and R8 on the parameters. -/
def Params.valid (p : Params) : Bool :=
  decide (1 ≤ p.numCores ∧ p.numCores ≤ 256) && decide (1 ≤ p.numContexts ∧ p.numContexts ≤ 256)
    && decide (1 ≤ p.maxContexts ∧ p.maxContexts ≤ 64) && decide (p.maxCap ≤ 2 ^ 32)
    && decide (p.slotCfg.length = p.numCores) && decide (p.iqCap.length = p.numCores)
    && p.slotCfg.all (fun row => decide (row.length = p.maxContexts) && row.all (fun t =>
        decide (1 ≤ t.robCap ∧ t.robCap ≤ p.maxCap) && decide (1 ≤ t.lsqCap ∧ t.lsqCap ≤ p.maxCap)
          && decide (1 ≤ t.ifqCap ∧ t.ifqCap ≤ p.maxCap)))
    && p.iqCap.all (fun n => decide (1 ≤ n))

/-- The example configuration of 95_test_vectors.md section 0. That table gives each opcode its `dest_type`, `is_load` and
`is_store` only: `src1` and `src2` are the model's own, for every opcode and for the default, and nothing reads them
(DESIGN CHOICE, safe: notes/assumptions/19.md). -/
def Params.ofExample : Params where
  numCores := 2
  numContexts := 4
  maxContexts := 2
  prfBankSize := 64
  maxCap := 8
  slotCfg := [[⟨4, 4, 4, 0⟩, ⟨4, 2, 2, 1⟩], [⟨4, 4, 4, 2⟩, ⟨4, 4, 4, 3⟩]]
  iqCap := [6, 8]
  mispredPenalty := 3
  penaltyOnAllRollbacks := false
  classTable :=
    [(0x10, ⟨.int, .int, .int, false, false⟩), (0x11, ⟨.fp, .fp, .fp, false, false⟩),
     (0x20, ⟨.int, .none, .int, true, false⟩), (0x21, ⟨.int, .int, .none, false, true⟩),
     (0x22, ⟨.int, .int, .none, false, true⟩), (0x23, ⟨.int, .int, .none, false, true⟩),
     (0x24, ⟨.int, .int, .none, false, true⟩), (0x30, ⟨.int, .none, .none, false, false⟩)]
  classDefault := ⟨.none, .none, .none, false, false⟩

/-- The free value: the `n`-th choice that the spec leaves open and that the state's list of draws does not answer
(93_implementation_defined.md U5, U8, U17). It has no body, so nothing can be proved of its value
(DESIGN CHOICE, safe: notes/assumptions/5.md). -/
opaque freeDraw : Nat → Nat

end Sys2Proof.Config
end

