-- ==== Sys2Proof/Machine/Table.lean ====
section
/-! DEFINITION. Sparse tables: the one representation of every indexed array of the spec (registers, slots, cores, contexts)
and of the external memory. A table lists (index, value) pairs with strictly rising indices; an index it does not list holds
the table's reset value (DESIGN CHOICE, safe: notes/assumptions/16.md). -/

namespace Sys2Proof.Machine

/-- A sparse table: (index, value) pairs. -/
abbrev Table (α : Type) := List (Nat × α)

/-- The value listed at an index. -/
def Table.find {α : Type} : Table α → Nat → Option α
  | [], _ => none
  | (a, v) :: t, k => if k = a then some v else Table.find t k

/-- The value at an index, `d` where the table lists none. -/
def Table.get {α : Type} (d : α) (t : Table α) (k : Nat) : α := (Table.find t k).getD d

/-- The table with the value at one index replaced, its indices still rising. -/
def Table.put {α : Type} : Table α → Nat → α → Table α
  | [], k, v => [(k, v)]
  | (a, w) :: t, k, v =>
    if k < a then (k, v) :: (a, w) :: t
    else if k = a then (k, v) :: t
    else (a, w) :: Table.put t k v

/-- Whether the indices are strictly rising: the canonical form. -/
def Table.rising {α : Type} : Table α → Bool
  | [] => true
  | [_] => true
  | (a, _) :: (b, w) :: t => decide (a < b) && Table.rising ((b, w) :: t)

end Sys2Proof.Machine
end

