-- ==== Sys2Proof/Machine/State.lean ====
section
/-! DEFINITION. The state of the engine and of what stands around it, as plain data (10_state.md R30 to R69), and the
state after reset (R69, 70_reset_and_hazards.md R390). -/

namespace Sys2Proof.Machine

open Sys2Proof.Config

/-- The ownership state of a physical register (10_state.md R32, R33). -/
inductive RegState where
  | free
  | alloc
  | architected
  deriving DecidableEq, Repr, Inhabited

/-- The two register banks of a core: INT = 0, FP = 1 (10_state.md R34). -/
inductive Bank where
  | int
  | fp
  deriving DecidableEq, Repr, Inhabited

/-- A physical register's record (10_state.md R32). It holds no data value. -/
structure PhysReg where
  state : RegState
  readyCycle : Word
  specReadyCycle : Word
  allocCycle : Word
  deriving DecidableEq, Repr, Inhabited

/-- The entry record shared by the ROB and the LSQ (10_state.md R39). `none` in `physreg` and `oldPhysreg` is "−1". -/
structure Entry where
  seq : Word
  opcode : Word
  pc : Word
  nextPc : Word
  predPc : Word
  physreg : Option Nat
  oldPhysreg : Option Nat
  archreg : BitVec 6
  destFormat : OpType
  eaComp : Bool
  isLoad : Bool
  isStore : Bool
  stackRecoverIdx : Word
  shadowValue : Word
  memAddr : Word
  memSize : BitVec 4
  shadowMem : Word
  dispatched : Bool
  queued : Bool
  issued : Bool
  completed : Bool
  inIq : Bool
  deriving DecidableEq, Repr, Inhabited

/-- A fetch-queue record (10_state.md R47). -/
structure FetchRecord where
  pc : Word
  payload : Word
  deriving DecidableEq, Repr, Inhabited

/-- The indices of a circular buffer: `head`, `tail`, `num` and the capacity (10_state.md R37, R38, R47). -/
structure Ring where
  head : Nat
  tail : Nat
  num : Nat
  cap : Nat
  deriving DecidableEq, Repr, Inhabited

/-- A context (10_state.md R35): attachment (R36), ROB (R37), LSQ (R38), generation counters (R44), rename table (R45),
working registers (R46), fetch queue (R47), `icount` (R48), `fetch_pc` and `fetch_stall_until` (R49). -/
structure Context where
  attached : Bool
  core : Nat
  slot : Nat
  robRing : Ring
  rob : Table Entry
  robGen : Table Nat
  lsqRing : Ring
  lsq : Table Entry
  lsqGen : Table Nat
  ifqRing : Ring
  ifq : Table FetchRecord
  rename : Table Nat
  wreg : Table Word
  icount : Nat
  fetchPc : Word
  fetchStallUntil : Word
  deriving DecidableEq, Repr, Inhabited

/-- One membership of a wakeup queue, `(c, B, i, g, key)` (10_state.md R51). -/
structure Membership where
  ctx : Nat
  buf : Buf
  idx : Nat
  gen : Nat
  key : Word
  deriving DecidableEq, Repr, Inhabited

/-- A core (10_state.md R31): its two register banks (R34), its slot roster, the occupancy of its issue queue (R50) and its
four wakeup queues (R51). A slot holds a context id or is empty. -/
structure Core where
  prfInt : Table PhysReg
  prfFp : Table PhysReg
  slots : Table (Option Nat)
  iqCount : Nat
  wqWaiting : List Membership
  wqIssueExec : List Membership
  wqEvent : List Membership
  wqReady : List Membership
  deriving DecidableEq, Repr, Inhabited

/-- The engine's cores, contexts and sequence counter (10_state.md R30, R52): all the state that R362 leaves unspecified
after a fatal defect. -/
structure Engine where
  cores : Table Core
  contexts : Table Context
  nextSeq : Word
  deriving DecidableEq, Repr, Inhabited

/-- The fatal latch (10_state.md R54). -/
structure FatalLatch where
  set : Bool
  code : BitVec 8
  header : Header
  now : Word
  deriving DecidableEq, Repr, Inhabited

/-- An output event (10_state.md R53). -/
inductive Event where
  | memWrite (addr : Word) (size : BitVec 4) (bytes : List Byte) (fault : Bool)
  | rasRecover (predHandle idx : Word)
  | insnCountDec (ctx n : Nat)
  deriving DecidableEq, Repr, Inhabited

/-- The external memory (20_memory.md R80): (address, byte) pairs with strictly rising addresses below `2^64`. An address
that is not listed has no known byte (DESIGN CHOICE, safe: notes/assumptions/10.md). -/
abbrev Memory := List Host.Cell

/-- What stands around the engine: the external memory (20_memory.md R80), the instruction counters of the reference
environment (10_state.md R55, 70_reset_and_hazards.md R400), and the environment's answers to the choices the spec leaves
open: `draws` are those already decided, `drawn` counts the choices made (notes/assumptions/5.md). -/
structure Environment where
  mem : Memory
  insnGlobal : Int
  insn : Table Int
  draws : List Nat
  drawn : Nat
  deriving DecidableEq, Repr, Inhabited

/-- The status of a response (30_encoding.md R117). -/
inductive Status where
  | ok
  | stall
  | reject
  | none
  | stale
  | illegal
  | fatal
  deriving DecidableEq, Repr, Inhabited

/-- A response: status, detail code and data words (30_encoding.md R117). -/
structure Response where
  status : Status
  detail : BitVec 8
  data : List Word
  deriving DecidableEq, Repr, Inhabited

/-- What can arrive at the engine or at the external memory between commands: a command with its cycle (30_encoding.md
R110), the reset input (70_reset_and_hazards.md R390), and a write of the external functional executor to memory
(20_memory.md R90). -/
inductive PortInput where
  | command (c : Command) (now : Word)
  | reset
  | executorStore (addr : Word) (bytes : List Byte)
  deriving DecidableEq, Repr, Inhabited

/-- The whole state: the parameters (read only, notes/assumptions/1.md), the engine, the fatal latch, the event trace, the
surroundings, and the command port: the inputs still pending, the cycle `now` of the command being performed, and the last
response (notes/assumptions/4.md). -/
structure State where
  cfg : Params
  eng : Engine
  latch : FatalLatch
  trace : List Event
  env : Environment
  port : List PortInput
  now : Word
  response : Option Response
  deriving DecidableEq, Repr, Inhabited

/-- Why the machine stops with a fault. There is no constructor: the spec's defects are the fatal latch, which is a next
state (60_exceptions.md R362), so no command and no input raises a fault. -/
inductive Fault where
  deriving DecidableEq, Repr

/-- Why a step has no meaning. -/
inductive Refusal where
  /-- An instruction that has no meaning yet. Raised by no arm of `exec` as the model stands; stopping there would be safe. -/
  | notModelled (mnemonic : String)
  deriving DecidableEq, Repr

/-- What one command, one input or one step ends in. -/
abbrev Result := Host.Outcome State Fault Refusal

/-- A physical register after reset: FREE, its timestamps 0 (10_state.md R69). -/
def PhysReg.reset : PhysReg := ⟨.free, 0, 0, 0⟩

/-- A slot's contents after reset: unspecified (10_state.md R69); no register and 0 throughout
(DESIGN CHOICE, unsafe: notes/assumptions/3.md). -/
def Entry.blank : Entry where
  seq := 0
  opcode := 0
  pc := 0
  nextPc := 0
  predPc := 0
  physreg := none
  oldPhysreg := none
  archreg := 0
  destFormat := .none
  eaComp := false
  isLoad := false
  isStore := false
  stackRecoverIdx := 0
  shadowValue := 0
  memAddr := 0
  memSize := 0
  shadowMem := 0
  dispatched := false
  queued := false
  issued := false
  completed := false
  inIq := false

/-- A fetch-queue slot's contents after reset: unspecified (10_state.md R69); 0 (DESIGN CHOICE, unsafe:
notes/assumptions/3.md). -/
def FetchRecord.blank : FetchRecord := ⟨0, 0⟩

/-- The indices of a buffer after reset: all 0, no capacity assigned yet (10_state.md R69). -/
def Ring.reset : Ring := ⟨0, 0, 0, 0⟩

/-- A context after reset (10_state.md R69). The rename table, the working registers and `fetch_pc` are unspecified there
and are 0 here (DESIGN CHOICE, unsafe: notes/assumptions/3.md). -/
def Context.reset : Context where
  attached := false
  core := 0
  slot := 0
  robRing := .reset
  rob := []
  robGen := []
  lsqRing := .reset
  lsq := []
  lsqGen := []
  ifqRing := .reset
  ifq := []
  rename := []
  wreg := []
  icount := 0
  fetchPc := 0
  fetchStallUntil := 0

/-- A core after reset (10_state.md R69). -/
def Core.reset : Core where
  prfInt := []
  prfFp := []
  slots := []
  iqCount := 0
  wqWaiting := []
  wqIssueExec := []
  wqEvent := []
  wqReady := []

/-- The cores, contexts and sequence counter after reset (10_state.md R69). -/
def Engine.reset : Engine := ⟨[], [], 0⟩

/-- The fatal latch after reset: clear (10_state.md R69). -/
def FatalLatch.reset : FatalLatch := ⟨false, 0, 0, 0⟩

/-- The surroundings when the model starts: memory with nothing listed, the counters 0, no answer decided in advance
(DESIGN CHOICE: notes/assumptions/5.md, 10.md, 11.md). -/
def Environment.start : Environment := ⟨[], 0, [], [], 0⟩

/-- The state right after reset of an engine built with the parameters `p`, nothing pending on the port. -/
def State.resetWith (p : Params) : State where
  cfg := p
  eng := .reset
  latch := .reset
  trace := []
  env := .start
  port := []
  now := 0
  response := none

/-- The state right after reset (10_state.md R69, 70_reset_and_hazards.md R390), of an engine built with the example
configuration of 95_test_vectors.md section 0 (DESIGN CHOICE, unsafe: notes/assumptions/1.md). -/
def State.reset : State := State.resetWith Params.ofExample

/-- The cores, contexts and sequence counter after a fatal defect, from those at the defect point: unspecified
(60_exceptions.md R362, 93_implementation_defined.md U4). A free value, applied to the number of choices made so far; it
has no body, so nothing can be proved of it (DESIGN CHOICE, safe: notes/assumptions/8.md). -/
opaque engineAfterFatal : Nat → Engine → Engine

end Sys2Proof.Machine
end

