-- ==== Sys2Proof/Machine/Codes.lean ====
section
/-! DEFINITION. The response word, the detail codes and the fatal defect codes (30_encoding.md R117, R118,
60_exceptions.md R361). -/

namespace Sys2Proof.Machine

/-- The 3-bit status code (30_encoding.md R117). -/
def Status.code : Status → BitVec 3
  | .ok => 0
  | .stall => 1
  | .reject => 2
  | .none => 3
  | .stale => 4
  | .illegal => 5
  | .fatal => 6

/-- The response word: bits 2:0 status, 7:3 zero, 15:8 detail, 31:16 the number of data words (30_encoding.md R117). -/
def Response.word (r : Response) : Header :=
  BitVec.ofNat 16 r.data.length ++ r.detail ++ (0 : BitVec 5) ++ r.status.code

/-- The reasons of a STALL (30_encoding.md R118). -/
inductive StallReason where
  | robFull
  | lsqFull
  | iqFull
  | prfEmpty
  | notReady
  | ifqFull
  deriving DecidableEq, Repr

/-- The STALL detail codes (30_encoding.md R118). -/
def StallReason.code : StallReason → BitVec 8
  | .robFull => 1
  | .lsqFull => 2
  | .iqFull => 3
  | .prfEmpty => 4
  | .notReady => 5
  | .ifqFull => 6

/-- The reasons of a REJECT (30_encoding.md R118). -/
inductive RejectReason where
  | coreFull
  | leaseShort
  deriving DecidableEq, Repr

/-- The REJECT detail codes (30_encoding.md R118). -/
def RejectReason.code : RejectReason → BitVec 8
  | .coreFull => 1
  | .leaseShort => 2

/-- The reasons of an ILLEGAL (30_encoding.md R118). -/
inductive IllegalReason where
  | badOpcode
  | reservedBits
  | badId
  | badIndex
  | badArchreg
  | badSize
  | badBank
  deriving DecidableEq, Repr

/-- The ILLEGAL detail codes (30_encoding.md R118). -/
def IllegalReason.code : IllegalReason → BitVec 8
  | .badOpcode => 1
  | .reservedBits => 2
  | .badId => 3
  | .badIndex => 4
  | .badArchreg => 5
  | .badSize => 6
  | .badBank => 7

/-- The fatal defects (60_exceptions.md R361). -/
inductive Defect where
  | lsqDesync
  | doubleFree
  | commitRegState
  | ejectNotQuiescent
  | ejectPendingTimestamp
  | ejectRegState
  | badTransition
  | notAttached
  | alreadyAttached
  | memReplayFault
  | wqDuplicate
  | prfState
  deriving DecidableEq, Repr

/-- The fatal defect codes (60_exceptions.md R361). -/
def Defect.code : Defect → BitVec 8
  | .lsqDesync => 1
  | .doubleFree => 2
  | .commitRegState => 3
  | .ejectNotQuiescent => 4
  | .ejectPendingTimestamp => 5
  | .ejectRegState => 6
  | .badTransition => 7
  | .notAttached => 8
  | .alreadyAttached => 9
  | .memReplayFault => 10
  | .wqDuplicate => 11
  | .prfState => 12

/-- OK with its data words. The detail is 0 (30_encoding.md R118). -/
def Response.ok (data : List Word) : Response := ⟨.ok, 0, data⟩

/-- STALL, without data words. -/
def Response.stall (r : StallReason) : Response := ⟨.stall, r.code, []⟩

/-- REJECT; only TRANSFER_CONTEXT gives it data words (44_context.md R293). -/
def Response.reject (r : RejectReason) (data : List Word) : Response := ⟨.reject, r.code, data⟩

/-- NONE, an empty answer. -/
def Response.empty : Response := ⟨.none, 0, []⟩

/-- STALE: the handle names an entry that no longer exists. -/
def Response.stale : Response := ⟨.stale, 0, []⟩

/-- ILLEGAL, the command is malformed. -/
def Response.illegal (r : IllegalReason) : Response := ⟨.illegal, r.code, []⟩

/-- FATAL with the latched or newly raised code (60_exceptions.md R362, R364). -/
def Response.fatal (code : BitVec 8) : Response := ⟨.fatal, code, []⟩

end Sys2Proof.Machine
end

