-- ==== Sys2Proof/Machine/Ops.lean ====
section
/-! DEFINITION. The named operations over the state: contexts, cores, registers, buffers, wakeup queues, the external memory,
the free draws, and entering and leaving the fatal state. -/

namespace Sys2Proof.Machine

open Sys2Proof.Config

/-! ### Parameters (00_scope.md R7) -/

/-- The class a finite table gives an opcode, `d` where the table does not list it. -/
def classOf (d : OpClass) : List (Word × OpClass) → Word → OpClass
  | [], _ => d
  | (w, k) :: t, op => if op = w then k else classOf d t op

/-- `CLASSIFY` (40_dispatch_rename.md R150). -/
def classify (p : Params) (op : Word) : OpClass := classOf p.classDefault p.classTable op

/-- Whether the class is that of a memory instruction (40_dispatch_rename.md R150). -/
def isMem (k : OpClass) : Bool := k.isLoad || k.isStore

/-- `SLOT_CFG[k][s]`. A valid configuration lists every slot of every core. -/
def template (p : Params) (k s : Nat) : SlotTemplate := (p.slotCfg.getD k []).getD s ⟨1, 1, 1, 0⟩

/-- `IQ_CAP[k]`. A valid configuration lists every core. -/
def iqCapOf (p : Params) (k : Nat) : Nat := p.iqCap.getD k 1

/-! ### Contexts and cores -/

/-- `C[c]`. -/
def State.ctx (s : State) (c : Nat) : Context := Table.get Context.reset s.eng.contexts c

/-- The state with `C[c]` replaced. -/
def State.setCtx (s : State) (c : Nat) (x : Context) : State :=
  { s with eng := { s.eng with contexts := Table.put s.eng.contexts c x } }

/-- The state with `C[c]` changed by `f`. -/
def State.updCtx (s : State) (c : Nat) (f : Context → Context) : State := s.setCtx c (f (s.ctx c))

/-- `K[k]`. -/
def State.core (s : State) (k : Nat) : Core := Table.get Core.reset s.eng.cores k

/-- The state with `K[k]` replaced. -/
def State.setCore (s : State) (k : Nat) (x : Core) : State :=
  { s with eng := { s.eng with cores := Table.put s.eng.cores k x } }

/-- The state with `K[k]` changed by `f`. -/
def State.updCore (s : State) (k : Nat) (f : Core → Core) : State := s.setCore k (f (s.core k))

/-! ### Circular buffers (10_state.md R37, R38, R42, R47) -/

/-- `pos(i) = (i - head) mod cap`, the non-negative remainder (10_state.md R42, 00_scope.md R9). -/
def Ring.pos (r : Ring) (i : Nat) : Nat := (i + (r.cap - r.head % r.cap)) % r.cap

/-- Whether slot `i` is in the live window (10_state.md R42). -/
def Ring.isLive (r : Ring) (i : Nat) : Bool := decide (i < r.cap) && decide (r.pos i < r.num)

/-- The slot of the youngest entry, `(tail - 1) mod cap`. -/
def Ring.last (r : Ring) : Nat := (r.tail + (r.cap - 1)) % r.cap

/-- Append one at the tail. -/
def Ring.pushTail (r : Ring) : Ring := { r with tail := (r.tail + 1) % r.cap, num := r.num + 1 }

/-- Remove one at the head. -/
def Ring.popHead (r : Ring) : Ring := { r with head := (r.head + 1) % r.cap, num := r.num - 1 }

/-- Remove one at the tail. -/
def Ring.popTail (r : Ring) : Ring := { r with tail := r.last, num := r.num - 1 }

/-- Empty the buffer at its tail: `head <- tail`, `num <- 0` (43_rollback.md R262). -/
def Ring.drain (r : Ring) : Ring := { r with head := r.tail, num := 0 }

/-- Empty the buffer and set its indices to 0 (43_rollback.md R263, 44_context.md R290, R292). -/
def Ring.clear (r : Ring) : Ring := { r with head := 0, tail := 0, num := 0 }

/-- The indices of the buffer `B`. -/
def Context.ring (x : Context) : Buf → Ring
  | .rob => x.robRing
  | .lsq => x.lsqRing

/-- `entry_B(c, i)` (41_queue_model.md section 1). -/
def Context.entry (x : Context) : Buf → Nat → Entry
  | .rob, i => Table.get Entry.blank x.rob i
  | .lsq, i => Table.get Entry.blank x.lsq i

/-- `gen_B[c][i]` (10_state.md R43, R44). -/
def Context.gen (x : Context) : Buf → Nat → Nat
  | .rob, i => Table.get 0 x.robGen i
  | .lsq, i => Table.get 0 x.lsqGen i

/-- The context with `entry_B(c, i)` replaced. -/
def Context.setEntry (x : Context) : Buf → Nat → Entry → Context
  | .rob, i, e => { x with rob := Table.put x.rob i e }
  | .lsq, i, e => { x with lsq := Table.put x.lsq i e }

/-- `live(c, B, i, g)` (10_state.md R43). The generation is compared as a natural number (30_encoding.md R116). -/
def State.live (s : State) (c : Nat) (b : Buf) (i g : Nat) : Bool :=
  (s.ctx c).attached && ((s.ctx c).ring b).isLive i && decide (g = (s.ctx c).gen b i)

/-! ### Architected registers (10_state.md R45, R46) -/

/-- `C[c].rename[a]`. -/
def Context.renameOf (x : Context) (a : Nat) : Nat := Table.get 0 x.rename a

/-- `C[c].wreg[a]`. No register is hardwired (10_state.md R62). -/
def Context.wregOf (x : Context) (a : Nat) : Word := Table.get 0 x.wreg a

/-- `bank(a)`: INT for `a < 32`, else FP (00_scope.md R10). -/
def bankOf (a : Nat) : Bank := if a < 32 then .int else .fp

/-! ### Physical registers (10_state.md R32 to R34) -/

/-- A bank of a core. -/
def Core.prf (x : Core) : Bank → Table PhysReg
  | .int => x.prfInt
  | .fp => x.prfFp

/-- The core with one register record replaced. -/
def Core.setReg (x : Core) (b : Bank) (p : Nat) (r : PhysReg) : Core :=
  match b with
  | .int => { x with prfInt := Table.put x.prfInt p r }
  | .fp => { x with prfFp := Table.put x.prfFp p r }

/-- `prf[k][b][p]`. -/
def State.reg (s : State) (k : Nat) (b : Bank) (p : Nat) : PhysReg := Table.get PhysReg.reset ((s.core k).prf b) p

/-- The state with `prf[k][b][p]` replaced. -/
def State.setReg (s : State) (k : Nat) (b : Bank) (p : Nat) (r : PhysReg) : State := s.updCore k (fun x => x.setReg b p r)

/-- The state with the ownership state of `prf[k][b][p]` replaced, its timestamps unchanged (92_eei_decisions.md D37). -/
def State.setRegState (s : State) (k : Nat) (b : Bank) (p : Nat) (st : RegState) : State :=
  s.setReg k b p { s.reg k b p with state := st }

/-- Whether `prf[k][b][p]` is FREE. -/
def State.isFree (s : State) (k : Nat) (b : Bank) (p : Nat) : Bool := decide ((s.reg k b p).state = .free)

/-- `FindFree(k, b)`: the lowest FREE index (40_dispatch_rename.md R151). -/
def State.findFree (s : State) (k : Nat) (b : Bank) : Option Nat :=
  (List.range s.cfg.prfBankSize).find? (fun p => s.isFree k b p)

/-- The number of FREE registers of a bank. -/
def State.freeCount (s : State) (k : Nat) (b : Bank) : Nat :=
  ((List.range s.cfg.prfBankSize).filter (fun p => s.isFree k b p)).length

/-! ### The slot roster (10_state.md R31) -/

/-- `K[k].slot[n]`: the context id the slot holds, `none` where it is empty. -/
def Core.slotOf (x : Core) (n : Nat) : Option Nat := Table.get none x.slots n

/-- The core with one slot replaced. -/
def Core.setSlot (x : Core) (n : Nat) (v : Option Nat) : Core := { x with slots := Table.put x.slots n v }

/-! ### Wakeup queues (10_state.md R51) -/

/-- `K[k].wq[q]`. -/
def Core.wq (x : Core) : Queue → List Membership
  | .waiting => x.wqWaiting
  | .issueExec => x.wqIssueExec
  | .event => x.wqEvent
  | .ready => x.wqReady

/-- The core with one queue replaced. -/
def Core.setWq (x : Core) (q : Queue) (l : List Membership) : Core :=
  match q with
  | .waiting => { x with wqWaiting := l }
  | .issueExec => { x with wqIssueExec := l }
  | .event => { x with wqEvent := l }
  | .ready => { x with wqReady := l }

/-- Whether a membership is one of the entry `(c, B, i)`. -/
def Membership.isOf (m : Membership) (c : Nat) (b : Buf) (i : Nat) : Bool :=
  decide (m.ctx = c) && decide (m.buf = b) && decide (m.idx = i)

/-- The members of a queue that are not of the entry `(c, B, i)`. -/
def dropEntry (c : Nat) (b : Buf) (i : Nat) (l : List Membership) : List Membership := l.filter (fun m => !m.isOf c b i)

/-- `RemoveFromAllQueues(k, c, B, i)` (41_queue_model.md R197). -/
def removeFromAllQueues (k c : Nat) (b : Buf) (i : Nat) (s : State) : State :=
  s.updCore k (fun x => { x with
    wqWaiting := dropEntry c b i x.wqWaiting
    wqIssueExec := dropEntry c b i x.wqIssueExec
    wqEvent := dropEntry c b i x.wqEvent
    wqReady := dropEntry c b i x.wqReady })

/-! ### The shared issue queue (10_state.md R48, R50) -/

/-- Take an issue-queue slot of core `k` for context `c` (40_dispatch_rename.md R154). The entry's own `in_iq` is written
with the entry. -/
def takeIqSlot (k c : Nat) (s : State) : State :=
  (s.updCore k (fun x => { x with iqCount := x.iqCount + 1 })).updCtx c (fun x => { x with icount := x.icount + 1 })

/-- Give up the issue-queue slot of entry `(c, B, i)`, if it holds one (41_queue_model.md R191, 43_rollback.md R260 step 3). -/
def releaseIqSlot (c : Nat) (b : Buf) (i : Nat) (s : State) : State :=
  if ((s.ctx c).entry b i).inIq then
    (s.updCore (s.ctx c).core (fun x => { x with iqCount := x.iqCount - 1 })).updCtx c (fun x =>
      { x.setEntry b i { x.entry b i with inIq := false } with icount := x.icount - 1 })
  else s

/-! ### Free draws (notes/assumptions/5.md) -/

/-- The next choice that the spec leaves open: the first of the answers already decided, else a free value. -/
def State.nextDraw (s : State) : Nat :=
  match s.env.draws with
  | [] => freeDraw s.env.drawn
  | d :: _ => d

/-- The state after one choice has been made. -/
def State.afterDraw (s : State) : State :=
  { s with env := { s.env with draws := s.env.draws.tail, drawn := s.env.drawn + 1 } }

/-! ### The external memory (20_memory.md R80 to R83) -/

/-- The byte known to stand at an address; `none` where nothing has been written. -/
def Memory.read (m : Memory) (a : Nat) : Option Byte := Table.find m a

/-- Write one byte. -/
def Memory.writeByte (m : Memory) (a : Nat) (v : Byte) : Memory := Table.put m a v

/-- Write bytes at `addr`, `addr + 1`, … modulo `2^64` (20_memory.md R83), byte `n` only where bit `n` of `mask` is 1. -/
def Memory.writeMasked (m : Memory) (addr : Word) : List Byte → Nat → Memory
  | [], _ => m
  | v :: t, mask =>
    Memory.writeMasked (if mask % 2 = 1 then m.writeByte addr.toNat v else m) (addr + 1) t (mask / 2)

/-- Write bytes at `addr`, `addr + 1`, … modulo `2^64`. -/
def Memory.writeBytes (m : Memory) (addr : Word) : List Byte → Memory
  | [] => m
  | v :: t => Memory.writeBytes (m.writeByte addr.toNat v) (addr + 1) t

/-- The canonical form: addresses strictly rising and below `2^64`. -/
def Memory.wf (m : Memory) : Bool := Table.rising m && m.all (fun cell => decide (cell.1 < 2 ^ 64))

/-- Bytes 0 to `n - 1` of a packed buffer: byte `k` is bits `8k+7:8k` (20_memory.md R82). -/
def bytesOf (w : Word) (n : Nat) : List Byte := (List.range n).map (fun k => w.extractLsb' (8 * k) 8)

/-- The memory's answer to a replay: bit 0 of the draw says whether it faults (20_memory.md R80, `MEM_FAULT`). -/
def drawFaults (d : Nat) : Bool := decide (d % 2 = 1)

/-- `MemWrite(addr, n, bytes)`: the access, its answer, and its event (20_memory.md R80). Of an access that faults, the bytes
that land are the ones the rest of the draw names (DESIGN CHOICE, safe: notes/assumptions/10.md). -/
def replayWrite (addr : Word) (size : BitVec 4) (data : Word) (s : State) : State :=
  let bytes := bytesOf data size.toNat
  let d := s.nextDraw
  let m := if drawFaults d then s.env.mem.writeMasked addr bytes (d / 2) else s.env.mem.writeBytes addr bytes
  let s' := s.afterDraw
  { s' with
    trace := s'.trace ++ [.memWrite addr size bytes (drawFaults d)]
    env := { s'.env with mem := m } }

/-! ### Events and the instruction counters (10_state.md R53, R55, 70_reset_and_hazards.md R400) -/

/-- Emit an event that has no effect held in the model. -/
def State.emit (s : State) (ev : Event) : State := { s with trace := s.trace ++ [ev] }

/-- Add to the environment's two counters of context `c`. -/
def State.countAdd (s : State) (c : Nat) (n : Int) : State :=
  { s with env := { s.env with
    insnGlobal := s.env.insnGlobal + n
    insn := Table.put s.env.insn c (Table.get 0 s.env.insn c + n) } }

/-- Emit `InsnCountDec(c, n)`, which the environment applies to both counters (10_state.md R55). -/
def emitCountDec (c n : Nat) (s : State) : State := (s.emit (.insnCountDec c n)).countAdd c (-(n : Int))

/-! ### Responses, and entering and leaving the fatal state -/

/-- Give the response. -/
def State.answer (s : State) (r : Response) : State := { s with response := some r }

/-- `Fatal(d)` (60_exceptions.md R362): the latch takes the code, the header and the cycle; the trace, the memory and the
counters keep what was done before the defect point; the engine's other state is unspecified. -/
def State.raiseFatal (s : State) (d : Defect) (header : Header) : State :=
  { s with
    eng := engineAfterFatal s.env.drawn s.eng
    latch := ⟨true, d.code, header, s.now⟩
    env := { s.env with drawn := s.env.drawn + 1 }
    response := some (.fatal d.code) }

/-- The reset input (70_reset_and_hazards.md R390), the only way out of the fatal state (60_exceptions.md R364). What
stands around the engine, and the inputs still pending, are not the engine's and stay (DESIGN CHOICE: notes/assumptions/13.md). -/
def State.engineReset (s : State) : State :=
  { s with eng := .reset, latch := .reset, trace := [], now := 0, response := none }

end Sys2Proof.Machine
end

