-- ==== Sys2Proof/Machine/Operands.lean ====
section
/-! DEFINITION. The common checks of every command in their fixed order (60_exceptions.md R368), the operand forms
(30_encoding.md R112, R116), and the data words of a response (R115). -/

namespace Sys2Proof.Machine

/-- What a command's body ends in: a response, or a fatal defect at the state of the defect point (60_exceptions.md R360). -/
inductive Ran where
  | done (s : State) (r : Response)
  | fatal (s : State) (d : Defect)
  deriving DecidableEq, Repr

/-- The response of an internal procedure's result, `k` its continuation. -/
def Ran.after (r : Except (Defect × State) State) (k : State → Ran) : Ran :=
  match r with
  | .ok s => k s
  | .error (d, s) => .fatal s d

/-- Step 2 of the check order, then the command's body, then its response or defect (60_exceptions.md R362, R364, R368). -/
def perform (i : Instr) (s : State) (body : Ran) : Result :=
  if s.latch.set then .next (s.answer (.fatal s.latch.code))
  else
    match body with
    | .done s' r => .next (s'.answer r)
    | .fatal s' d => .next (s'.raiseFatal d i.header)

/-- Step 4 for a used `CTX` (60_exceptions.md R368). -/
def checkCtx (c : BitVec 8) (s : State) (k : Ran) : Ran :=
  if c.toNat < s.cfg.numContexts then k else .done s (.illegal .badId)

/-- Step 4 for a used `CORE`. -/
def checkCore (c : BitVec 8) (s : State) (k : Ran) : Ran :=
  if c.toNat < s.cfg.numCores then k else .done s (.illegal .badId)

/-- Step 4 for a bank command's `Q`. -/
def checkBank (q : BitVec 2) (s : State) (k : Bank → Ran) : Ran :=
  if q.toNat < 2 then k (if q.toNat = 0 then .int else .fp) else .done s (.illegal .badBank)

/-- Step 5 for the commands that need an attached context. -/
def checkAttached (c : BitVec 8) (s : State) (k : Ran) : Ran :=
  if (s.ctx c.toNat).attached then k else .fatal s .notAttached

/-- Step 6 for a slot word of the buffer `B` (30_encoding.md R116). -/
def checkSlot (c : BitVec 8) (b : Buf) (slot : Word) (s : State) (k : Ran) : Ran :=
  if slot.toNat < ((s.ctx c.toNat).ring b).cap then k else .done s (.illegal .badIndex)

/-- Step 6 for the slot word of WQ_INSERT and WQ_REMOVE: below `MAX_CAP` (30_encoding.md R116). -/
def checkQueueSlot (slot : Word) (s : State) (k : Ran) : Ran :=
  if slot.toNat < s.cfg.maxCap then k else .done s (.illegal .badIndex)

/-- Step 6 for a physical-register index word. -/
def checkReg (p : Word) (s : State) (k : Ran) : Ran :=
  if p.toNat < s.cfg.prfBankSize then k else .done s (.illegal .badIndex)

/-- Step 6 for an `archreg` word. -/
def checkArchreg (a : Word) (s : State) (k : Ran) : Ran :=
  if a.toNat < 64 then k else .done s (.illegal .badArchreg)

/-- Step 7: handle liveness (10_state.md R43). -/
def checkLive (c : BitVec 8) (b : Buf) (slot gen : Word) (s : State) (k : Ran) : Ran :=
  if s.live c.toNat b slot.toNat gen.toNat then k else .done s .stale

/-- Steps 4 to 7 for a command on a handle of an attached context: MARK_QUEUED, ISSUE, COMPLETE, ROLLBACK_TO. -/
def checkHandle (c : BitVec 8) (b : Buf) (slot gen : Word) (s : State) (k : Ran) : Ran :=
  checkCtx c s (checkAttached c s (checkSlot c b slot s (checkLive c b slot gen s k)))

/-- Step 7 for WQ_INSERT and WQ_REMOVE: the handle is live and its context is attached to core `k`
(41_queue_model.md R194, R196). -/
def checkLiveOn (core c : BitVec 8) (b : Buf) (slot gen : Word) (s : State) (k : Ran) : Ran :=
  if s.live c.toNat b slot.toNat gen.toNat ∧ (s.ctx c.toNat).core = core.toNat then k else .done s .stale

/-- Whether DISPATCH's `archreg` word agrees with the destination type (30_encoding.md R116, 40_dispatch_rename.md R154). -/
def archregFits (dt : Config.OpType) (a : Word) : Bool :=
  match dt with
  | .none => true
  | .int => decide (a.toNat < 32)
  | .fp => decide (32 ≤ a.toNat) && decide (a.toNat < 64)

/-- Whether a `mem_size` word is a legal width: 1, 2, 4 or 8 (20_memory.md R84). -/
def sizeLegal (n : Word) : Bool := decide (n = 1) || decide (n = 2) || decide (n = 4) || decide (n = 8)

/-- A count, index or generation as a data word. A data word has 64 bits and the spec bounds neither `PRF_BANK_SIZE` nor `IQ_CAP`
nor the model's generations: a number of `2^64` or more is given modulo `2^64` (DESIGN CHOICE, unsafe:
notes/assumptions/20.md). -/
def natWord (n : Nat) : Word := BitVec.ofNat 64 n

/-- A physical register or slot as a data word, "−1" where there is none (30_encoding.md R115); an index too large for the word as
`natWord` gives it (notes/assumptions/20.md). -/
def optWord : Option Nat → Word
  | none => minusOne
  | some n => natWord n

/-- A bit as a data word. -/
def boolWord (v : Bool) : Word := if v then 1 else 0

/-- The buffer of a handle as a data word: 0 ROB, 1 LSQ (30_encoding.md R115). -/
def bufWord : Buf → Word
  | .rob => 0
  | .lsq => 1

/-- `code(state)` of PRF_READ (40_dispatch_rename.md R158). -/
def regStateWord : RegState → Word
  | .free => 0
  | .alloc => 1
  | .architected => 2

end Sys2Proof.Machine
end

