-- ==== Sys2Proof/Machine/Flags.lean ====
section
/-! DEFINITION. The entry status bits and their transitions (10_state.md R41, R64), and the read-out layouts of the status
registers (45_frontend_query.md R326 to R329). -/

namespace Sys2Proof.Machine

/-- Dispatched → Queued, where the entry is exactly Dispatched (41_queue_model.md R190). -/
def Entry.toQueued (e : Entry) : Option Entry :=
  if e.dispatched && !e.queued then some { e with queued := true } else none

/-- Queued → Issued (41_queue_model.md R191). -/
def Entry.toIssued (e : Entry) : Option Entry :=
  if e.queued && !e.issued then some { e with issued := true } else none

/-- Issued → Completed (41_queue_model.md R192). -/
def Entry.toCompleted (e : Entry) : Option Entry :=
  if e.issued && !e.completed then some { e with completed := true } else none

/-- The 2-bit code of `dest_format`: NONE = 0, INT = 1, FP = 2 (10_state.md R39). -/
def destCode : Config.OpType → BitVec 2
  | .none => 0
  | .int => 1
  | .fp => 2

/-- The flags word d10 of ENTRY_READ (45_frontend_query.md R326), written from bit 63 down. -/
def Entry.flagsWord (e : Entry) : Word :=
  (0 : BitVec 54) ++ BitVec.ofBool e.inIq ++ BitVec.ofBool e.completed ++ BitVec.ofBool e.issued ++ BitVec.ofBool e.queued
    ++ BitVec.ofBool e.dispatched ++ BitVec.ofBool e.isStore ++ BitVec.ofBool e.isLoad ++ BitVec.ofBool e.eaComp
    ++ destCode e.destFormat

/-- The data words d2 to d15 of ENTRY_READ for a live slot (45_frontend_query.md R326). -/
def Entry.words (e : Entry) : List Word :=
  [e.seq, e.opcode, e.pc, e.nextPc, e.predPc, optWord e.physreg, optWord e.oldPhysreg, e.archreg.setWidth 64, e.flagsWord,
    e.stackRecoverIdx, e.shadowValue, e.memAddr, e.memSize.setWidth 64, e.shadowMem]

/-- The data words d2 to d15 of ENTRY_READ for a slot outside the live window: any values, cut from one free draw
(93_implementation_defined.md U5, notes/assumptions/7.md). -/
def deadWords (d : Nat) : List Word := (List.range 14).map (fun k => BitVec.ofNat 64 (d >>> (64 * k)))

/-- The data word d0 of CTX_STATUS: bit 0 `attached`, bits 15:8 `core` and 23:16 `slot` while attached
(45_frontend_query.md R327). -/
def Context.attachWord (x : Context) : Word :=
  if x.attached then (0 : BitVec 40) ++ BitVec.ofNat 8 x.slot ++ BitVec.ofNat 8 x.core ++ (1 : BitVec 8) else 0

/-- The four index words of a buffer in CTX_STATUS. -/
def Ring.words (r : Ring) : List Word := [natWord r.head, natWord r.tail, natWord r.num, natWord r.cap]

/-- The data words of CTX_STATUS (45_frontend_query.md R327). -/
def Context.statusWords (x : Context) : List Word :=
  x.attachWord :: (x.robRing.words ++ x.lsqRing.words ++ x.ifqRing.words
    ++ [natWord x.icount, x.fetchPc, x.fetchStallUntil])

/-- The occupied slots of a core, in rising order. -/
def Core.occupied (x : Core) (maxContexts : Nat) : List Nat :=
  (List.range maxContexts).filter (fun n => (x.slotOf n).isSome)

/-- The slot bitmap d4 of CORE_STATUS (45_frontend_query.md R328). -/
def slotBitmap (l : List Nat) : Word := l.foldl (fun w n => w ||| ((1 : Word) <<< n)) 0

/-- The data words of CORE_STATUS (45_frontend_query.md R328). -/
def State.coreWords (s : State) (k : Nat) : List Word :=
  let occ := (s.core k).occupied s.cfg.maxContexts
  [natWord occ.length, natWord (s.core k).iqCount, natWord (s.freeCount k .int), natWord (s.freeCount k .fp),
    slotBitmap occ, natWord (s.core k).wqWaiting.length, natWord (s.core k).wqIssueExec.length,
    natWord (s.core k).wqEvent.length, natWord (s.core k).wqReady.length]

/-- The data words of FATAL_STATUS (45_frontend_query.md R329). -/
def FatalLatch.words (f : FatalLatch) : List Word :=
  [(0 : BitVec 48) ++ f.code ++ (0 : BitVec 7) ++ BitVec.ofBool f.set, f.header.setWidth 64, f.now]

end Sys2Proof.Machine
end

