-- ==== Sys2Proof/Machine/Rollback.lean ====
section
/-! DEFINITION. The rollback and flush controller (43_rollback.md): the per-entry squash, ROLLBACK_TO, FLUSH_CONTEXT. -/

namespace Sys2Proof.Machine

/-- Squash step 1 for the youngest ROB entry `e`: pop the matching LSQ entry at its tail, a store's shadow replayed first
(43_rollback.md R260). -/
def squashPartner (c : Nat) (e : Entry) (s : State) : Except (Defect × State) State :=
  if e.eaComp then
    let x := s.ctx c
    let j := x.lsqRing.last
    let l := x.entry .lsq j
    if x.lsqRing.num = 0 then .error (.lsqDesync, s)
    else if l.seq ≠ e.seq then .error (.lsqDesync, s)
    else if l.isStore ∧ drawFaults s.nextDraw then .error (.memReplayFault, replayWrite l.memAddr l.memSize l.shadowMem s)
    else
      let s1 := if l.isStore then replayWrite l.memAddr l.memSize l.shadowMem s else s
      .ok ((removeFromAllQueues x.core c .lsq j s1).updCtx c (fun y => { y with lsqRing := y.lsqRing.popTail }))
  else .ok s

/-- Squash step 4: the entry's register is freed, the rename entry takes the displaced mapping back, and the working register
takes its shadow value (43_rollback.md R260). An entry with a register but no displaced mapping, which no run reaches, leaves
the rename entry alone (notes/assumptions/14.md). -/
def restoreDest (c : Nat) (e : Entry) (s : State) : Except (Defect × State) State :=
  match e.physreg with
  | none => .ok s
  | some p =>
    let k := (s.ctx c).core
    let a := e.archreg.toNat
    if (s.reg k (bankOf a) p).state = .alloc then
      .ok ((s.setRegState k (bankOf a) p .free).updCtx c (fun x =>
        { x with
          rename := match e.oldPhysreg with
            | none => x.rename
            | some old => Table.put x.rename a old
          wreg := Table.put x.wreg a e.shadowValue }))
    else .error (.doubleFree, s)

/-- `SquashEntry(c)`: squash the youngest live ROB entry, steps 1 to 5 in order (43_rollback.md R260). -/
def squashEntry (c : Nat) (s : State) : Except (Defect × State) State :=
  let x := s.ctx c
  let i := x.robRing.last
  let e := x.entry .rob i
  match squashPartner c e s with
  | .error r => .error r
  | .ok s1 =>
    match restoreDest c e (releaseIqSlot c .rob i (removeFromAllQueues x.core c .rob i s1)) with
    | .error r => .error r
    | .ok s2 => .ok (s2.updCtx c (fun y => { y with robRing := y.robRing.popTail }))

/-- `repeat n times: SquashEntry(c)`, youngest first (43_rollback.md R261, R263). -/
def squashMany (c : Nat) : Nat → State → Except (Defect × State) State
  | 0, s => .ok s
  | n + 1, s =>
    match squashEntry c s with
    | .error r => .error r
    | .ok s' => squashMany c n s'

/-- The end of the fetch stall: `min(now + MISPRED_PENALTY, 2^64 - 1)` (00_scope.md R13, 43_rollback.md R262). -/
def stallEnd (now penalty : Word) : Word := BitVec.ofNat 64 (min (now.toNat + penalty.toNat) (2 ^ 64 - 1))

/-- `AfterRollback(c, t, M, now, n)` (43_rollback.md R262): drain the fetch queue, redirect fetch to the target's `next_pc`,
recover the return stack, apply the penalty, and count. -/
def afterRollback (c t : Nat) (m : Bool) (n : Nat) (s : State) : State :=
  let x := s.ctx c
  let e := x.entry .rob t
  let s1 := s.updCtx c (fun y =>
    { y with
      ifqRing := y.ifqRing.drain
      fetchPc := e.nextPc
      fetchStallUntil := if m || s.cfg.penaltyOnAllRollbacks then stallEnd s.now s.cfg.mispredPenalty
        else y.fetchStallUntil })
  let s2 := if m then s1.emit (.rasRecover (template s.cfg x.core x.slot).predHandle e.stackRecoverIdx) else s1
  emitCountDec c n s2

/-- The number of entries strictly younger than the target slot `t` (43_rollback.md R261). -/
def youngerCount (x : Context) (t : Nat) : Nat := x.robRing.num - 1 - x.robRing.pos t

/-- ROLLBACK_TO (43_rollback.md R261). -/
def execRollbackTo (c : BitVec 8) (m : Bool) (slot gen : Word) (s : State) : Result :=
  perform (.rollbackTo c m slot gen) s (checkHandle c .rob slot gen s (
    let n := youngerCount (s.ctx c.toNat) slot.toNat
    Ran.after (squashMany c.toNat n s) fun s1 =>
      let s2 := afterRollback c.toNat slot.toNat m n s1
      .done s2 (.ok [natWord n, (s2.ctx c.toNat).fetchPc])))

/-- The redirect PC of a flush: the head's `pc`, else the oldest fetch record's, else `fetch_pc` (43_rollback.md R263,
92_eei_decisions.md D47). -/
def flushPc (x : Context) : Word :=
  if 0 < x.robRing.num then (x.entry .rob x.robRing.head).pc
  else if 0 < x.ifqRing.num then (Table.get FetchRecord.blank x.ifq x.ifqRing.head).pc
  else x.fetchPc

/-- The last part of a flush: the indices go to 0, fetch is redirected, and the squashed entries are counted
(43_rollback.md R263). -/
def flushFinish (c n : Nat) (pc : Word) (s : State) : State :=
  emitCountDec c n (s.updCtx c (fun y =>
    { y with
      robRing := y.robRing.clear
      lsqRing := y.lsqRing.clear
      ifqRing := y.ifqRing.clear
      icount := 0
      fetchPc := pc }))

/-- The body of FLUSH_CONTEXT for an attached context (43_rollback.md R263). -/
def flushBody (c : Nat) (s : State) : Except (Defect × State) State :=
  match squashMany c (s.ctx c).robRing.num s with
  | .error r => .error r
  | .ok s1 =>
    if (s1.ctx c).lsqRing.num = 0 then .ok (flushFinish c (s.ctx c).robRing.num (flushPc (s.ctx c)) s1)
    else .error (.lsqDesync, s1)

/-- FLUSH_CONTEXT (43_rollback.md R263). -/
def execFlushContext (c : BitVec 8) (s : State) : Result :=
  perform (.flushContext c) s (checkCtx c s (checkAttached c s (
    Ran.after (flushBody c.toNat s) fun s1 =>
      .done s1 (.ok [natWord (s.ctx c.toNat).robRing.num, flushPc (s.ctx c.toNat)]))))

end Sys2Proof.Machine
end

