-- ==== Sys2Proof/Machine/Admission.lean ====
section
/-! DEFINITION. Context admission, eviction and transfer (44_context.md): ADD_CONTEXT, EJECT_CONTEXT, TRANSFER_CONTEXT. -/

namespace Sys2Proof.Machine

/-- The record of a leased register: ARCHITECTED, ready at 0, stamped with `now` (44_context.md R291). -/
def PhysReg.leased (now : Word) : PhysReg := ⟨.architected, 0, 0, now⟩

/-- Lease the lowest FREE register of `bank(a)` as the target of architected register `a` (44_context.md R291). Admit has
checked that there is one. -/
def leaseOne (c k a : Nat) (s : State) : State :=
  match s.findFree k (bankOf a) with
  | none => s
  | some p => (s.setReg k (bankOf a) p (.leased s.now)).updCtx c (fun x => { x with rename := Table.put x.rename a p })

/-- `Lease(c, k, now)`: the 32 INT registers in order, then the 32 FP registers (44_context.md R291). -/
def lease (c k : Nat) (s : State) : State := (List.range 64).foldl (fun s' a => leaseOne c k a s') s

/-- The lowest empty slot of a core (44_context.md R290, 92_eei_decisions.md D25). -/
def emptySlot (k : Nat) (s : State) : Option Nat :=
  (List.range s.cfg.maxContexts).find? (fun n => (s.core k).slotOf n = none)

/-- The context as admission leaves it before the lease: attached to slot `n` of core `k`, with the slot's capacities and
empty buffers; the generations, working registers, `fetch_pc` and `fetch_stall_until` are kept (44_context.md R290). -/
def Context.admitted (x : Context) (k n : Nat) (t : Config.SlotTemplate) : Context :=
  { x with
    attached := true
    core := k
    slot := n
    robRing := ⟨0, 0, 0, t.robCap⟩
    lsqRing := ⟨0, 0, 0, t.lsqCap⟩
    ifqRing := ⟨0, 0, 0, t.ifqCap⟩
    icount := 0 }

/-- `Admit(c, k, now)` (44_context.md R290). -/
def admitTo (c k : Nat) (s : State) : Except RejectReason State :=
  match emptySlot k s with
  | none => .error .coreFull
  | some n =>
    if s.freeCount k .int < 32 ∨ s.freeCount k .fp < 32 then .error .leaseShort
    else
      .ok (lease c k ((s.updCore k (fun x => x.setSlot n (some c))).updCtx c (fun x =>
        x.admitted k n (template s.cfg k n))))

/-- ADD_CONTEXT (44_context.md R290). -/
def execAddContext (c core : BitVec 8) (s : State) : Result :=
  perform (.addContext c core) s (checkCtx c s (checkCore core s (
    if (s.ctx c.toNat).attached then .fatal s .alreadyAttached
    else
      match admitTo c.toNat core.toNat s with
      | .error r => .done s (.reject r [])
      | .ok s' => .done s' (.ok [natWord (s'.ctx c.toNat).slot]))))

/-- The check of one register to be returned (44_context.md R292): the defect it raises, if any. -/
def returnDefect (s : State) (c a : Nat) : Option Defect :=
  let r := s.reg (s.ctx c).core (bankOf a) ((s.ctx c).renameOf a)
  if r.state ≠ .architected then some .ejectRegState
  else if s.now < r.readyCycle ∨ s.now < r.specReadyCycle then some .ejectPendingTimestamp
  else none

/-- The first check of an eviction that fails, in the order of 44_context.md R292. -/
def evictDefect (c : Nat) (s : State) : Option Defect :=
  let x := s.ctx c
  if x.robRing.num ≠ 0 ∨ x.icount ≠ 0 then some .ejectNotQuiescent
  else if x.lsqRing.num ≠ 0 then some .lsqDesync
  else (List.range 64).findSome? (returnDefect s c)

/-- The 64 rename targets of the context go to FREE (44_context.md R292). -/
def returnRegs (c : Nat) (s : State) : State :=
  (List.range 64).foldl
    (fun s' a => s'.setRegState (s.ctx c).core (bankOf a) ((s.ctx c).renameOf a) .free) s

/-- The context as eviction leaves it: detached, its buffers empty; a fetch queue that was not empty gives `fetch_pc` its
oldest record's PC (44_context.md R292, 92_eei_decisions.md D66). -/
def Context.evicted (x : Context) : Context :=
  { x with
    attached := false
    fetchPc := if 0 < x.ifqRing.num then (Table.get FetchRecord.blank x.ifq x.ifqRing.head).pc else x.fetchPc
    ifqRing := x.ifqRing.clear
    robRing := x.robRing.clear
    lsqRing := x.lsqRing.clear }

/-- `Evict(c, now)` (44_context.md R292). -/
def evict (c : Nat) (s : State) : Except (Defect × State) State :=
  match evictDefect c s with
  | some d => .error (d, s)
  | none =>
    .ok (((returnRegs c s).updCore (s.ctx c).core (fun x => x.setSlot (s.ctx c).slot none)).updCtx c Context.evicted)

/-- EJECT_CONTEXT (44_context.md R292). -/
def execEjectContext (c : BitVec 8) (s : State) : Result :=
  perform (.ejectContext c) s (checkCtx c s (checkAttached c s (
    Ran.after (evict c.toNat s) fun s' =>
      .done s' (.ok [natWord (s.ctx c.toNat).core, natWord (s.ctx c.toNat).slot]))))

/-- TRANSFER_CONTEXT (44_context.md R293): flush, evict, then admission; a refused admission leaves the context detached. -/
def execTransferContext (c core : BitVec 8) (s : State) : Result :=
  perform (.transferContext c core) s (checkCtx c s (checkCore core s (checkAttached c s (
    let n := natWord (s.ctx c.toNat).robRing.num
    Ran.after (flushBody c.toNat s) fun s1 =>
      Ran.after (evict c.toNat s1) fun s2 =>
        match admitTo c.toNat core.toNat s2 with
        | .error r => .done s2 (.reject r [n, minusOne])
        | .ok s3 => .done s3 (.ok [n, natWord (s3.ctx c.toNat).slot])))))

end Sys2Proof.Machine
end

