-- ==== Sys2Proof/Machine/Commit.lean ====
section
/-! DEFINITION. In-order commit (42_commit.md): COMMIT. -/

namespace Sys2Proof.Machine

/-- What COMMIT finds at the LSQ's head for a ROB head `e` (42_commit.md R230). -/
inductive PartnerCheck where
  /-- the LSQ is empty, or its head belongs to another instruction. -/
  | desync
  /-- the partner is not completed. -/
  | notReady
  /-- there is no partner to check, or it is completed. -/
  | ready
  deriving DecidableEq, Repr

/-- The check of the LSQ partner of the ROB head (42_commit.md R230). -/
def partnerCheck (x : Context) (e : Entry) : PartnerCheck :=
  if e.eaComp then
    let l := x.entry .lsq x.lsqRing.head
    if x.lsqRing.num = 0 then .desync
    else if l.seq ≠ e.seq then .desync
    else if l.completed then .ready
    else .notReady
  else .ready

/-- The register step of COMMIT: `physreg` ALLOC to ARCHITECTED and the displaced mapping ARCHITECTED to FREE
(42_commit.md R230, 90_conflicts.md C2). An entry with a register but no displaced mapping, which no run reaches, is
COMMIT_REG_STATE too (notes/assumptions/14.md). -/
def commitReg (k : Nat) (e : Entry) (s : State) : Except (Defect × State) State :=
  match e.physreg with
  | none => .ok s
  | some p =>
    let b := bankOf e.archreg.toNat
    match e.oldPhysreg with
    | none => .error (.commitRegState, s)
    | some old =>
      if (s.reg k b p).state = .alloc ∧ (s.reg k b old).state = .architected then
        .ok ((s.setRegState k b p .architected).setRegState k b old .free)
      else .error (.commitRegState, s)

/-- The removal of the ROB head, and of the LSQ head where it is a load or store (42_commit.md R230). -/
def retireHead (c : Nat) (e : Entry) (s : State) : State :=
  let x := s.ctx c
  let s1 := removeFromAllQueues x.core c .rob x.robRing.head s
  let s2 := if e.eaComp then
      (removeFromAllQueues x.core c .lsq x.lsqRing.head s1).updCtx c (fun y => { y with lsqRing := y.lsqRing.popHead })
    else s1
  s2.updCtx c (fun y => { y with robRing := y.robRing.popHead })

/-- The data words of COMMIT (30_encoding.md R115): the freed mapping is "−1" where the entry holds no register. -/
def commitWords (x : Context) (e : Entry) : List Word :=
  [e.seq, e.pc, natWord x.robRing.head, boolWord e.eaComp, optWord e.physreg,
    if e.physreg.isSome then optWord e.oldPhysreg else minusOne]

/-- COMMIT (42_commit.md R230). -/
def execCommit (c : BitVec 8) (s : State) : Result :=
  perform (.commit c) s (checkCtx c s (checkAttached c s (
    let x := s.ctx c.toNat
    let e := x.entry .rob x.robRing.head
    if x.robRing.num = 0 then .done s .empty
    else if e.completed then
      match partnerCheck x e with
      | .desync => .fatal s .lsqDesync
      | .notReady => .done s (.stall .notReady)
      | .ready => Ran.after (commitReg x.core e s) fun s' => .done (retireHead c.toNat e s') (.ok (commitWords x e))
    else .done s (.stall .notReady))))

end Sys2Proof.Machine
end

