-- ==== Sys2Proof/Machine/Frontend.lean ====
section
/-! DEFINITION. No-op, fetch queue, working registers and read-out commands (45_frontend_query.md): NOP, IFQ_PUSH, IFQ_POP,
WREG_READ, WREG_WRITE, SET_FETCH_PC, ENTRY_READ, CTX_STATUS, CORE_STATUS, FATAL_STATUS. -/

namespace Sys2Proof.Machine

/-- NOP (45_frontend_query.md R320). -/
def execNop (s : State) : Result := perform .nop s (.done s (.ok []))

/-- IFQ_PUSH (45_frontend_query.md R321). -/
def execIfqPush (c : BitVec 8) (pc payload : Word) (s : State) : Result :=
  perform (.ifqPush c pc payload) s (checkCtx c s (checkAttached c s (
    let r := (s.ctx c.toNat).ifqRing
    if r.num = r.cap then .done s (.stall .ifqFull)
    else
      .done (s.updCtx c.toNat (fun x => { x with ifq := Table.put x.ifq r.tail ⟨pc, payload⟩, ifqRing := r.pushTail }))
        (.ok [natWord r.tail]))))

/-- IFQ_POP (45_frontend_query.md R322). -/
def execIfqPop (c : BitVec 8) (s : State) : Result :=
  perform (.ifqPop c) s (checkCtx c s (checkAttached c s (
    let r := (s.ctx c.toNat).ifqRing
    let f := Table.get FetchRecord.blank (s.ctx c.toNat).ifq r.head
    if r.num = 0 then .done s .empty
    else .done (s.updCtx c.toNat (fun x => { x with ifqRing := r.popHead })) (.ok [f.pc, f.payload]))))

/-- WREG_READ (45_frontend_query.md R323). -/
def execWregRead (c : BitVec 8) (archreg : Word) (s : State) : Result :=
  perform (.wregRead c archreg) s (checkCtx c s (checkArchreg archreg s (
    .done s (.ok [(s.ctx c.toNat).wregOf archreg.toNat]))))

/-- WREG_WRITE (45_frontend_query.md R324). -/
def execWregWrite (c : BitVec 8) (archreg value : Word) (s : State) : Result :=
  perform (.wregWrite c archreg value) s (checkCtx c s (checkArchreg archreg s (
    .done (s.updCtx c.toNat (fun x => { x with wreg := Table.put x.wreg archreg.toNat value })) (.ok []))))

/-- SET_FETCH_PC (45_frontend_query.md R325). -/
def execSetFetchPc (c : BitVec 8) (pc : Word) (s : State) : Result :=
  perform (.setFetchPc c pc) s (checkCtx c s (
    .done (s.updCtx c.toNat (fun x => { x with fetchPc := pc })) (.ok [])))

/-- ENTRY_READ (45_frontend_query.md R326): outside the live window, d2 to d15 are any values (notes/assumptions/7.md). -/
def execEntryRead (c : BitVec 8) (b : Buf) (slot : Word) (s : State) : Result :=
  perform (.entryRead c b slot) s (checkCtx c s (checkAttached c s (checkSlot c b slot s (
    let x := s.ctx c.toNat
    let gen := natWord (x.gen b slot.toNat)
    if (x.ring b).isLive slot.toNat then .done s (.ok (1 :: gen :: (x.entry b slot.toNat).words))
    else .done s.afterDraw (.ok (0 :: gen :: deadWords s.nextDraw))))))

/-- CTX_STATUS (45_frontend_query.md R327). -/
def execCtxStatus (c : BitVec 8) (s : State) : Result :=
  perform (.ctxStatus c) s (checkCtx c s (.done s (.ok (s.ctx c.toNat).statusWords)))

/-- CORE_STATUS (45_frontend_query.md R328). -/
def execCoreStatus (core : BitVec 8) (s : State) : Result :=
  perform (.coreStatus core) s (checkCore core s (.done s (.ok (s.coreWords core.toNat))))

/-- FATAL_STATUS (45_frontend_query.md R329): performed before the latch is looked at, step 1 of 60_exceptions.md R368. -/
def execFatalStatus (s : State) : Result := .next (s.answer (.ok s.latch.words))

end Sys2Proof.Machine
end

