-- ==== Sys2Proof/Machine/Queues.lean ====
section
/-! DEFINITION. Entry status transitions and wakeup queues (41_queue_model.md): MARK_QUEUED, ISSUE, COMPLETE, WQ_INSERT,
WQ_POP, WQ_REMOVE. -/

namespace Sys2Proof.Machine

/-- The state with `entry_B(c, i)` replaced. -/
def State.setEntry (s : State) (c : Nat) (b : Buf) (i : Nat) (e : Entry) : State := s.updCtx c (fun x => x.setEntry b i e)

/-- A status transition of a live entry: `f` gives the entry after it, or none where it would skip or repeat a step, which
is the defect BAD_TRANSITION (41_queue_model.md R190 to R192). -/
def statusBody (c : BitVec 8) (b : Buf) (slot gen : Word) (s : State) (f : Entry → Option Entry) (k : State → State) : Ran :=
  checkHandle c b slot gen s (
    match f ((s.ctx c.toNat).entry b slot.toNat) with
    | none => .fatal s .badTransition
    | some e => .done (k (s.setEntry c.toNat b slot.toNat e)) (.ok []))

/-- MARK_QUEUED (41_queue_model.md R190). -/
def execMarkQueued (c : BitVec 8) (b : Buf) (slot gen : Word) (s : State) : Result :=
  perform (.markQueued c b slot gen) s (statusBody c b slot gen s Entry.toQueued id)

/-- ISSUE (41_queue_model.md R191): an entry that holds an issue-queue slot gives it up. -/
def execIssue (c : BitVec 8) (b : Buf) (slot gen : Word) (s : State) : Result :=
  perform (.issue c b slot gen) s (statusBody c b slot gen s Entry.toIssued (releaseIqSlot c.toNat b slot.toNat))

/-- COMPLETE (41_queue_model.md R192). -/
def execComplete (c : BitVec 8) (b : Buf) (slot gen : Word) (s : State) : Result :=
  perform (.complete c b slot gen) s (statusBody c b slot gen s Entry.toCompleted id)

/-- The key of a new membership: the entry's `seq` in the ready queue, else the word supplied (41_queue_model.md R194). -/
def queueKey (q : Queue) (e : Entry) (key : Word) : Word :=
  match q with
  | .waiting => key
  | .issueExec => key
  | .event => key
  | .ready => e.seq

/-- The state with `K[k].wq[q]` replaced. -/
def State.setWq (s : State) (k : Nat) (q : Queue) (l : List Membership) : State := s.updCore k (fun x => x.setWq q l)

/-- WQ_INSERT (41_queue_model.md R194). -/
def execWqInsert (core c : BitVec 8) (q : Queue) (b : Buf) (slot gen key : Word) (s : State) : Result :=
  perform (.wqInsert core c q b slot gen key) s (checkCore core s (checkCtx c s (checkQueueSlot slot s (
    checkLiveOn core c b slot gen s (
      let l := (s.core core.toNat).wq q
      if l.any (fun m => m.isOf c.toNat b slot.toNat) then .fatal s .wqDuplicate
      else
        .done (s.setWq core.toNat q (l ++ [⟨c.toNat, b, slot.toNat, gen.toNat,
          queueKey q ((s.ctx c.toNat).entry b slot.toNat) key⟩])) (.ok []))))))

/-- The memberships a pop may take: those due at `now`; the ready queue has no time test (41_queue_model.md R195). -/
def eligible (q : Queue) (now : Word) (l : List Membership) : List Membership :=
  match q with
  | .waiting => l.filter (fun m => decide (m.key ≤ now))
  | .issueExec => l.filter (fun m => decide (m.key ≤ now))
  | .event => l.filter (fun m => decide (m.key ≤ now))
  | .ready => l

/-- The memberships with the smallest key of a list. -/
def leastKey (l : List Membership) : List Membership := l.filter (fun m => l.all (fun m' => decide (m.key ≤ m'.key)))

/-- The memberships any of which a pop of `K[k].wq[q]` may return (41_queue_model.md R195, 92_eei_decisions.md D38). -/
def popCandidates (k : Nat) (q : Queue) (s : State) : List Membership := leastKey (eligible q s.now ((s.core k).wq q))

/-- The data words of a popped membership (30_encoding.md R115). -/
def Membership.words (m : Membership) : List Word := [natWord m.ctx, bufWord m.buf, natWord m.idx, natWord m.gen, m.key]

/-- The member of a list that a draw names; none of an empty list. -/
def popChoice (d : Nat) : List Membership → Option Membership
  | [] => none
  | m :: t => (m :: t)[d % (t.length + 1)]?

/-- `wq - { m }` (41_queue_model.md R195, R196). -/
def without (m : Membership) (l : List Membership) : List Membership := l.filter (fun m' => decide (m' ≠ m))

/-- WQ_POP (41_queue_model.md R195): which of several candidates is returned is a free draw (notes/assumptions/6.md). -/
def execWqPop (core : BitVec 8) (q : Queue) (s : State) : Result :=
  perform (.wqPop core q) s (checkCore core s (
    match popChoice s.nextDraw (popCandidates core.toNat q s) with
    | none => .done s .empty
    | some m => .done (s.afterDraw.setWq core.toNat q (without m ((s.core core.toNat).wq q))) (.ok m.words)))

/-- WQ_REMOVE (41_queue_model.md R196). -/
def execWqRemove (core c : BitVec 8) (q : Queue) (b : Buf) (slot gen : Word) (s : State) : Result :=
  perform (.wqRemove core c q b slot gen) s (checkCore core s (checkCtx c s (checkQueueSlot slot s (
    checkLiveOn core c b slot gen s (
      let l := (s.core core.toNat).wq q
      match l.find? (fun m => m.isOf c.toNat b slot.toNat && decide (m.gen = gen.toNat)) with
      | none => .done s (.ok [0])
      | some m => .done (s.setWq core.toNat q (without m l)) (.ok [1]))))))

end Sys2Proof.Machine
end

