-- ==== Sys2Proof/Machine/Rename.lean ====
section
/-! DEFINITION. Dispatch, register allocation and renaming (40_dispatch_rename.md): DISPATCH, FIND_FREE_PHYSREG,
PRF_SET_READY, PRF_READ, RENAME_READ. -/

namespace Sys2Proof.Machine

open Sys2Proof.Config

/-- The record of a register just allocated: ALLOC, both timestamps "not yet ready", stamped with `now`
(40_dispatch_rename.md R153). -/
def PhysReg.allocated (now : Word) : PhysReg := ⟨.alloc, notReady, notReady, now⟩

/-- `AllocPhysreg(c, e, now)` (40_dispatch_rename.md R153): the state with the register allocated and the rename entry
replaced, the register taken and the mapping it displaces; `none`, with nothing written, where the bank has no FREE one. -/
def allocPhysreg (c a : Nat) (s : State) : Option (State × Nat × Nat) :=
  match s.findFree (s.ctx c).core (bankOf a) with
  | none => none
  | some p =>
    some ((s.setReg (s.ctx c).core (bankOf a) p (.allocated s.now)).updCtx c (fun x =>
      { x with rename := Table.put x.rename a p }), p, (s.ctx c).renameOf a)

/-- The resources DISPATCH checks before it writes anything, in their order (40_dispatch_rename.md R154,
92_eei_decisions.md D20). -/
def dispatchStall (c : Nat) (kl : OpClass) (a : Nat) (s : State) : Option StallReason :=
  let x := s.ctx c
  if x.robRing.num = x.robRing.cap then some .robFull
  else if isMem kl ∧ x.lsqRing.num = x.lsqRing.cap then some .lsqFull
  else if (s.core x.core).iqCount = iqCapOf s.cfg x.core then some .iqFull
  else if kl.dest ≠ .none ∧ s.findFree x.core (bankOf a) = none then some .prfEmpty
  else none

/-- The fields that both halves of an instruction take from the command (40_dispatch_rename.md R154). -/
def entryBase (kl : OpClass) (p : DispatchWords) (seq : Word) : Entry :=
  { Entry.blank with
    seq := seq
    opcode := p.opcode
    pc := p.pc
    nextPc := p.nextPc
    predPc := p.predPc
    stackRecoverIdx := p.stackRecoverIdx
    isLoad := kl.isLoad
    isStore := kl.isStore
    dispatched := true }

/-- The new ROB entry (40_dispatch_rename.md R154, 10_state.md R40); `dest` is the register taken and the mapping it
displaces. -/
def robEntryOf (kl : OpClass) (p : DispatchWords) (seq : Word) (dest : Option (Nat × Nat)) : Entry :=
  { entryBase kl p seq with
    destFormat := kl.dest
    eaComp := isMem kl
    inIq := true
    physreg := dest.map Prod.fst
    oldPhysreg := dest.map Prod.snd
    archreg := if kl.dest = .none then 0 else p.archreg.setWidth 6
    shadowValue := if kl.dest = .none then 0 else p.shadowValue }

/-- The new LSQ entry of a load or store (40_dispatch_rename.md R154, 10_state.md R40). -/
def lsqEntryOf (kl : OpClass) (p : DispatchWords) (seq : Word) : Entry :=
  { entryBase kl p seq with
    memAddr := p.memAddr
    memSize := p.memSize.setWidth 4
    shadowMem := if kl.isStore then p.shadowMem else 0 }

/-- Append an entry at the ROB's tail, the slot's generation incremented. -/
def Context.appendRob (x : Context) (e : Entry) : Context :=
  { x with
    rob := Table.put x.rob x.robRing.tail e
    robGen := Table.put x.robGen x.robRing.tail (Table.get 0 x.robGen x.robRing.tail + 1)
    robRing := x.robRing.pushTail }

/-- Append an entry at the LSQ's tail, the slot's generation incremented. -/
def Context.appendLsq (x : Context) (e : Entry) : Context :=
  { x with
    lsq := Table.put x.lsq x.lsqRing.tail e
    lsqGen := Table.put x.lsqGen x.lsqRing.tail (Table.get 0 x.lsqGen x.lsqRing.tail + 1)
    lsqRing := x.lsqRing.pushTail }

/-- The sequence number counter incremented, modulo `2^64` (10_state.md R52). -/
def State.bumpSeq (s : State) : State := { s with eng := { s.eng with nextSeq := s.eng.nextSeq + 1 } }

/-- The allocation step of DISPATCH: for an instruction with a destination, AllocPhysreg, and what it took. -/
def dispatchDest (c : Nat) (kl : OpClass) (a : Nat) (s : State) : State × Option (Nat × Nat) :=
  if kl.dest = .none then (s, none)
  else
    match allocPhysreg c a s with
    | none => (s, none)
    | some (s', p, old) => (s', some (p, old))

/-- The writes of a DISPATCH that finds every resource (40_dispatch_rename.md R154). The environment counts the
instruction (70_reset_and_hazards.md R400). -/
def dispatchWrite (c : Nat) (kl : OpClass) (p : DispatchWords) (s : State) : State :=
  let r := dispatchDest c kl p.archreg.toNat s
  let s1 := (takeIqSlot (s.ctx c).core c r.1).bumpSeq
  let s2 := s1.updCtx c (fun x => x.appendRob (robEntryOf kl p s.eng.nextSeq r.2))
  let s3 := if isMem kl then s2.updCtx c (fun x => x.appendLsq (lsqEntryOf kl p s.eng.nextSeq)) else s2
  s3.countAdd c 1

/-- The data words of a DISPATCH that finds every resource (30_encoding.md R115), `s` the state before it. -/
def dispatchWords (c : Nat) (kl : OpClass) (p : DispatchWords) (s : State) : List Word :=
  let x := s.ctx c
  let dest := (dispatchDest c kl p.archreg.toNat s).2
  [natWord x.robRing.tail, natWord (x.gen .rob x.robRing.tail + 1),
    if isMem kl then natWord x.lsqRing.tail else minusOne,
    if isMem kl then natWord (x.gen .lsq x.lsqRing.tail + 1) else 0,
    s.eng.nextSeq, optWord (dest.map Prod.fst), optWord (dest.map Prod.snd)]

/-- The body of DISPATCH. -/
def dispatchBody (c : BitVec 8) (p : DispatchWords) (s : State) : Ran :=
  let kl := classify s.cfg p.opcode
  checkCtx c s (checkAttached c s (
    if !archregFits kl.dest p.archreg then .done s (.illegal .badArchreg)
    else if isMem kl && !sizeLegal p.memSize then .done s (.illegal .badSize)
    else
      match dispatchStall c.toNat kl p.archreg.toNat s with
      | some r => .done s (.stall r)
      | none => .done (dispatchWrite c.toNat kl p s) (.ok (dispatchWords c.toNat kl p s))))

/-- DISPATCH (40_dispatch_rename.md R154). -/
def execDispatch (c : BitVec 8) (p : DispatchWords) (s : State) : Result :=
  perform (.dispatch c p) s (dispatchBody c p s)

/-- FIND_FREE_PHYSREG (40_dispatch_rename.md R152). -/
def execFindFreePhysreg (core : BitVec 8) (q : BitVec 2) (s : State) : Result :=
  perform (.findFreePhysreg core q) s (checkCore core s (checkBank q s fun b =>
    match s.findFree core.toNat b with
    | none => .done s .empty
    | some p => .done s (.ok [natWord p])))

/-- PRF_SET_READY (40_dispatch_rename.md R157). -/
def execPrfSetReady (core : BitVec 8) (q : BitVec 2) (index ready spec : Word) (s : State) : Result :=
  perform (.prfSetReady core q index ready spec) s (checkCore core s (checkBank q s fun b => checkReg index s (
    let r := s.reg core.toNat b index.toNat
    if r.state = .alloc then
      .done (s.setReg core.toNat b index.toNat { r with readyCycle := ready, specReadyCycle := spec }) (.ok [])
    else .fatal s .prfState)))

/-- PRF_READ (40_dispatch_rename.md R158). -/
def execPrfRead (core : BitVec 8) (q : BitVec 2) (index : Word) (s : State) : Result :=
  perform (.prfRead core q index) s (checkCore core s (checkBank q s fun b => checkReg index s (
    let r := s.reg core.toNat b index.toNat
    .done s (.ok [regStateWord r.state, r.readyCycle, r.specReadyCycle, r.allocCycle]))))

/-- RENAME_READ (40_dispatch_rename.md R159). -/
def execRenameRead (c : BitVec 8) (archreg : Word) (s : State) : Result :=
  perform (.renameRead c archreg) s (checkCtx c s (checkAttached c s (checkArchreg archreg s (
    .done s (.ok [natWord ((s.ctx c.toNat).renameOf archreg.toNat)])))))

end Sys2Proof.Machine
end

