-- ==== Sys2Proof/Machine/Dispatch.lean ====
section
/-! DEFINITION. The meaning of every command: one arm per constructor of Instr. -/

namespace Sys2Proof.Machine

def exec (i : Instr) (s : State) : Host.Outcome State Fault Refusal :=
  match i with
  | .nop => Sys2Proof.Machine.execNop s
  | .dispatch ctx p => Sys2Proof.Machine.execDispatch ctx p s
  | .markQueued ctx b slot gen => Sys2Proof.Machine.execMarkQueued ctx b slot gen s
  | .issue ctx b slot gen => Sys2Proof.Machine.execIssue ctx b slot gen s
  | .complete ctx b slot gen => Sys2Proof.Machine.execComplete ctx b slot gen s
  | .commit ctx => Sys2Proof.Machine.execCommit ctx s
  | .rollbackTo ctx m slot gen => Sys2Proof.Machine.execRollbackTo ctx m slot gen s
  | .flushContext ctx => Sys2Proof.Machine.execFlushContext ctx s
  | .addContext ctx core => Sys2Proof.Machine.execAddContext ctx core s
  | .ejectContext ctx => Sys2Proof.Machine.execEjectContext ctx s
  | .transferContext ctx core => Sys2Proof.Machine.execTransferContext ctx core s
  | .findFreePhysreg core q => Sys2Proof.Machine.execFindFreePhysreg core q s
  | .prfSetReady core q index ready spec => Sys2Proof.Machine.execPrfSetReady core q index ready spec s
  | .prfRead core q index => Sys2Proof.Machine.execPrfRead core q index s
  | .renameRead ctx archreg => Sys2Proof.Machine.execRenameRead ctx archreg s
  | .wqInsert core ctx q b slot gen key => Sys2Proof.Machine.execWqInsert core ctx q b slot gen key s
  | .wqPop core q => Sys2Proof.Machine.execWqPop core q s
  | .wqRemove core ctx q b slot gen => Sys2Proof.Machine.execWqRemove core ctx q b slot gen s
  | .ifqPush ctx pc payload => Sys2Proof.Machine.execIfqPush ctx pc payload s
  | .ifqPop ctx => Sys2Proof.Machine.execIfqPop ctx s
  | .wregRead ctx archreg => Sys2Proof.Machine.execWregRead ctx archreg s
  | .wregWrite ctx archreg value => Sys2Proof.Machine.execWregWrite ctx archreg value s
  | .setFetchPc ctx pc => Sys2Proof.Machine.execSetFetchPc ctx pc s
  | .entryRead ctx b slot => Sys2Proof.Machine.execEntryRead ctx b slot s
  | .ctxStatus ctx => Sys2Proof.Machine.execCtxStatus ctx s
  | .coreStatus core => Sys2Proof.Machine.execCoreStatus core s
  | .fatalStatus => Sys2Proof.Machine.execFatalStatus s

end Sys2Proof.Machine
end

