-- ==== Sys2Proof/Machine/Fetch.lean ====
section
/-! DEFINITION. What a step does besides running a decoded command: taking an input from the port, and answering a header
that is no command (60_exceptions.md R368 steps 2 and 3). -/

namespace Sys2Proof.Machine

/-- The state with the command at the head of the port taken off it and its cycle on `now` (30_encoding.md R110). -/
def State.accept (s : State) (rest : List PortInput) (now : Word) : State := { s with port := rest, now := now }

/-- The ILLEGAL detail of a header that is no command (30_encoding.md R112, R114). -/
def DecodeError.reason : DecodeError → IllegalReason
  | .badOpcode => .badOpcode
  | .reservedBits => .reservedBits

/-- The answer to a header that is no command: FATAL while the latch is set, else ILLEGAL; nothing else changes
(60_exceptions.md R368). -/
def rejectHeader (e : DecodeError) (s : State) : State :=
  if s.latch.set then s.answer (.fatal s.latch.code) else s.answer (.illegal (DecodeError.reason e))

/-- A write of the external functional executor to memory (20_memory.md R90, notes/assumptions/12.md). -/
def executorStore (addr : Word) (bytes : List Byte) (s : State) : State :=
  { s with env := { s.env with mem := s.env.mem.writeBytes addr bytes } }

/-- The command whose header is the low 32 bits of a number, the bits above `nbits` zero, as the next input of the port. -/
def fetchInput (s : State) (nbits w : Nat) : PortInput := .command (commandOfNat (w % 2 ^ nbits)) s.now

end Sys2Proof.Machine
end

