-- ==== Sys2Proof/Machine/Step.lean ====
section
/-! DEFINITION. One step of the machine: the next input of the port. -/

namespace Sys2Proof.Machine

/-- One step: take the oldest pending input. A command is decoded and performed whole (30_encoding.md R110,
60_exceptions.md R368); the reset input resets the engine (70_reset_and_hazards.md R390); a write of the executor reaches
memory (20_memory.md R90). With nothing pending the engine does nothing (notes/assumptions/4.md). -/
def step (s : State) : Host.Outcome State Fault Refusal :=
  match s.port with
  | [] => .next s
  | .command c now :: rest =>
    match decode c with
    | .ok i => exec i (s.accept rest now)
    | .error e => .next (rejectHeader e (s.accept rest now))
  | .reset :: rest => .next { s.engineReset with port := rest }
  | .executorStore addr bytes :: rest => .next { executorStore addr bytes s with port := rest }

/-- The state with the given instruction word put at the head of the port, so that the very next step performs it. -/
def State.withFetchWord (s : State) (nbits w : Nat) : State := { s with port := fetchInput s nbits w :: s.port }

end Sys2Proof.Machine
end

