-- ==== Sys2Proof/Safety.lean ====
section
/-! DEFINITION. The invariants the spec states of the engine between commands while the fatal latch is clear (10_state.md R36,
R37, R38, R41, R51, R56 to R61), and the terms in which the statements speak of a state: its live entries, its committed
mappings, the replays a squash will make. -/

namespace Sys2Proof.Safety

open Sys2Proof.Machine

/-! ### Live entries (10_state.md R42) -/

/-- The slots of the live window, oldest first. -/
def liveSlots (r : Ring) : List Nat := (List.range r.num).map (fun j => (r.head + j) % r.cap)

/-- The live entries of a buffer, oldest first. -/
def liveEntries (x : Context) (b : Buf) : List Entry := (liveSlots (x.ring b)).map (x.entry b)

/-- The live ROB entries that write architected register `a`, oldest first. -/
def writers (x : Context) (a : Nat) : List Entry :=
  (liveEntries x .rob).filter (fun e => decide (e.archreg.toNat = a) && e.physreg.isSome)

/-- The committed mapping `cmap(c, a)` (10_state.md R58). -/
def cmap (x : Context) (a : Nat) : Option Nat :=
  match writers x a with
  | [] => some (x.renameOf a)
  | e :: _ => e.oldPhysreg

/-! ### The invariants -/

/-- The arithmetic of a circular buffer's indices (10_state.md R37, R38, R47). -/
abbrev RingOk (r : Ring) : Prop :=
  r.num ≤ r.cap ∧ (r.head < r.cap ∨ r.cap = 0 ∧ r.head = 0) ∧ r.tail = (r.head + r.num) % r.cap

/-- The indices of a context's three buffers (10_state.md R37, R38, R47, R56). -/
abbrev ContextRingsOk (x : Context) : Prop := RingOk x.robRing ∧ RingOk x.lsqRing ∧ RingOk x.ifqRing

/-- The indices of every context's buffers. -/
abbrev RingsOk (s : State) : Prop := ∀ c < s.cfg.numContexts, ContextRingsOk (s.ctx c)

/-- Context `c` holds the slot it names, with the capacities of the slot's template `t`. -/
abbrev StandsIn (s : State) (c : Nat) (x : Context) (t : Config.SlotTemplate) : Prop :=
  x.core < s.cfg.numCores ∧ x.slot < s.cfg.maxContexts ∧ (s.core x.core).slotOf x.slot = some c
    ∧ x.robRing.cap = t.robCap ∧ x.lsqRing.cap = t.lsqCap ∧ x.ifqRing.cap = t.ifqCap

/-- An attached context stands in the slot it names, with that slot's capacities; a detached one is empty
(10_state.md R36, R56). -/
abbrev ContextAttachOk (s : State) (c : Nat) : Prop :=
  ((s.ctx c).attached = true → StandsIn s c (s.ctx c) (template s.cfg (s.ctx c).core (s.ctx c).slot))
    ∧ ((s.ctx c).attached = false → (s.ctx c).robRing.num = 0 ∧ (s.ctx c).lsqRing.num = 0
        ∧ (s.ctx c).ifqRing.num = 0 ∧ (s.ctx c).icount = 0)

/-- A slot that is not empty holds a context that is attached to it (10_state.md R36). -/
abbrev SlotOk (s : State) (k n : Nat) : Prop :=
  ((s.core k).slotOf n).all (fun c => decide (c < s.cfg.numContexts ∧ (s.ctx c).attached = true ∧ (s.ctx c).core = k
    ∧ (s.ctx c).slot = n)) = true

/-- Attachment and the slot rosters agree (10_state.md R36). -/
abbrev AttachOk (s : State) : Prop :=
  (∀ c < s.cfg.numContexts, ContextAttachOk s c) ∧ (∀ k < s.cfg.numCores, ∀ n < s.cfg.maxContexts, SlotOk s k n)

/-- The status bits of an entry accumulate (10_state.md R41). -/
abbrev StatusOk (e : Entry) : Prop :=
  e.dispatched = true ∧ (e.issued = true → e.queued = true) ∧ (e.completed = true → e.issued = true)

/-- The fields of a ROB entry agree (10_state.md R40, R60, R62): the LSQ fields are 0, `ea_comp` is a load's or store's,
`in_iq` holds exactly until it issues, and it has a register and a displaced mapping exactly if it has a destination, in
the destination's bank. -/
abbrev RobEntryOk (e : Entry) : Prop :=
  StatusOk e ∧ e.memAddr = 0 ∧ e.memSize = 0 ∧ e.shadowMem = 0 ∧ e.eaComp = (e.isLoad || e.isStore) ∧ e.inIq = !e.issued
    ∧ (e.physreg.isSome = true ↔ e.destFormat ≠ .none) ∧ e.oldPhysreg.isSome = e.physreg.isSome
    ∧ (e.destFormat = .int → e.archreg.toNat < 32) ∧ (e.destFormat = .fp → 32 ≤ e.archreg.toNat)

/-- The fields of an LSQ entry (10_state.md R40): no register, no issue-queue slot, a legal width. -/
abbrev LsqEntryOk (e : Entry) : Prop :=
  StatusOk e ∧ e.physreg = none ∧ e.oldPhysreg = none ∧ e.archreg = 0 ∧ e.destFormat = .none ∧ e.eaComp = false
    ∧ e.shadowValue = 0 ∧ e.inIq = false ∧ (e.memSize = 1 ∨ e.memSize = 2 ∨ e.memSize = 4 ∨ e.memSize = 8)
    ∧ (e.isLoad || e.isStore) = true ∧ (e.isStore = false → e.shadowMem = 0)

/-- Every live entry's fields agree. -/
abbrev EntriesOk (s : State) : Prop :=
  ∀ c < s.cfg.numContexts,
    (liveEntries (s.ctx c) .rob).all (fun e => decide (RobEntryOk e)) = true
      ∧ (liveEntries (s.ctx c) .lsq).all (fun e => decide (LsqEntryOk e)) = true

/-- ROB/LSQ correspondence (10_state.md R57): the live `ea_comp` entries and the live LSQ entries carry the same sequence
numbers, in position order, so there are as many of the one as of the other. -/
abbrev LsqMatches (s : State) : Prop :=
  ∀ c < s.cfg.numContexts,
    ((liveEntries (s.ctx c) .rob).filter (fun e => e.eaComp)).map (fun e => e.seq)
      = (liveEntries (s.ctx c) .lsq).map (fun e => e.seq)

/-- The `icount` of a context if it is attached to core `k`, else 0. -/
def icountOn (s : State) (k c : Nat) : Nat :=
  if (s.ctx c).attached = true ∧ (s.ctx c).core = k then (s.ctx c).icount else 0

/-- Issue-queue accounting (10_state.md R48, R50, R56, R60). -/
abbrev IqOk (s : State) : Prop :=
  (∀ c < s.cfg.numContexts, (s.ctx c).icount = ((liveEntries (s.ctx c) .rob).filter (fun e => e.inIq)).length)
    ∧ (∀ k < s.cfg.numCores,
        (s.core k).iqCount = ((List.range s.cfg.numContexts).map (icountOn s k)).sum
          ∧ (s.core k).iqCount ≤ iqCapOf s.cfg k)

/-- The four wakeup queues of a core (10_state.md R51). -/
abbrev everyQueue : List Queue := [.waiting, .issueExec, .event, .ready]

/-- The two register banks of a core (10_state.md R34). -/
abbrev everyBank : List Bank := [.int, .fp]

/-- Every membership of every wakeup queue names a live entry of a context of that core (10_state.md R59), at most once in
each queue, and the ready queue's key is the entry's `seq` (R51). -/
abbrev QueuesOk (s : State) : Prop :=
  ∀ k < s.cfg.numCores, ∀ q ∈ everyQueue,
    (∀ m ∈ (s.core k).wq q, m.ctx < s.cfg.numContexts ∧ s.live m.ctx m.buf m.idx m.gen = true ∧ (s.ctx m.ctx).core = k
      ∧ (q = .ready → m.key = ((s.ctx m.ctx).entry m.buf m.idx).seq))
    ∧ ((s.core k).wq q).Pairwise (fun m m' => ¬(m.ctx = m'.ctx ∧ m.buf = m'.buf ∧ m.idx = m'.idx))

/-- The contexts attached to a core. -/
def attachedTo (s : State) (k : Nat) : List Nat :=
  (List.range s.cfg.numContexts).filter (fun c => (s.ctx c).attached && decide ((s.ctx c).core = k))

/-- How many live ROB entries of contexts attached to core `k` own register `p` of bank `b` (10_state.md R58). -/
def owners (s : State) (k : Nat) (b : Bank) (p : Nat) : Nat :=
  ((attachedTo s k).map (fun c => ((liveEntries (s.ctx c) .rob).filter (fun e =>
    decide (e.physreg = some p) && decide (bankOf e.archreg.toNat = b))).length)).sum

/-- How many pairs `(c, a)` have register `p` of bank `b` of core `k` as their committed mapping (10_state.md R58). -/
def committers (s : State) (k : Nat) (b : Bank) (p : Nat) : Nat :=
  ((attachedTo s k).map (fun c => ((List.range 64).filter (fun a =>
    decide (bankOf a = b) && decide (cmap (s.ctx c) a = some p))).length)).sum

/-- Register ownership (10_state.md R58): ALLOC exactly if one live entry owns the register, ARCHITECTED exactly if it is the
committed mapping of one pair, and never both. -/
abbrev OwnershipOk (s : State) : Prop :=
  ∀ k < s.cfg.numCores, ∀ b ∈ everyBank, ∀ p < s.cfg.prfBankSize,
    owners s k b p + committers s k b p ≤ 1
      ∧ ((s.reg k b p).state = .alloc ↔ owners s k b p = 1)
      ∧ ((s.reg k b p).state = .architected ↔ committers s k b p = 1)

/-- Rename chains (10_state.md R61): the committed mapping followed by the registers of the in-flight writers is the list of
the mappings they displaced followed by the rename entry; and every mapping is a register of the bank. -/
abbrev ChainsOk (s : State) : Prop :=
  ∀ c < s.cfg.numContexts, (s.ctx c).attached = true → ∀ a < 64,
    cmap (s.ctx c) a :: (writers (s.ctx c) a).map (fun e => e.physreg)
        = (writers (s.ctx c) a).map (fun e => e.oldPhysreg) ++ [some ((s.ctx c).renameOf a)]
      ∧ (s.ctx c).renameOf a < s.cfg.prfBankSize
      ∧ (writers (s.ctx c) a).all (fun e => e.oldPhysreg.all (fun p => decide (p < s.cfg.prfBankSize))) = true

/-- Every invariant of 10_state.md section 5, of an engine whose latch is clear. -/
abbrev EngineOk (s : State) : Prop :=
  RingsOk s ∧ AttachOk s ∧ EntriesOk s ∧ LsqMatches s ∧ IqOk s ∧ QueuesOk s ∧ OwnershipOk s ∧ ChainsOk s

/-- A clear latch holds nothing (10_state.md R54, R69, 45_frontend_query.md R329). -/
abbrev LatchOk (s : State) : Prop := s.latch.set = false → s.latch = FatalLatch.reset

/-- The invariant of every state between commands: the configuration is legal (00_scope.md R7, R8), the memory is in its
canonical form, and while the latch is clear it holds nothing and the engine keeps its invariants (10_state.md section 5). -/
abbrev Inv (s : State) : Prop :=
  s.cfg.valid = true ∧ s.env.mem.wf = true ∧ LatchOk s ∧ (s.latch.set = false → EngineOk s)

/-- The values of 10_state.md R69, those it gives: registers, cores, contexts, counters, latch and trace after engine reset. -/
abbrev ResetValues (t : State) : Prop :=
  (∀ k b p, t.reg k b p = ⟨.free, 0, 0, 0⟩)
    ∧ (∀ k, (∀ n, (t.core k).slotOf n = none) ∧ (t.core k).iqCount = 0 ∧ ∀ q, (t.core k).wq q = [])
    ∧ (∀ c, (t.ctx c).attached = false ∧ (t.ctx c).robRing = ⟨0, 0, 0, 0⟩ ∧ (t.ctx c).lsqRing = ⟨0, 0, 0, 0⟩
        ∧ (t.ctx c).ifqRing = ⟨0, 0, 0, 0⟩ ∧ (t.ctx c).icount = 0 ∧ (t.ctx c).fetchStallUntil = 0
        ∧ ∀ b i, (t.ctx c).gen b i = 0)
    ∧ t.eng.nextSeq = 0 ∧ t.latch = ⟨false, 0, 0, 0⟩ ∧ t.trace = []

/-! ### What a command names (30_encoding.md R113, R116) -/

/-- The `CTX` field of a command that uses it. -/
def usesCtx : Instr → Option (BitVec 8)
  | .nop => none
  | .dispatch c _ => some c
  | .markQueued c _ _ _ => some c
  | .issue c _ _ _ => some c
  | .complete c _ _ _ => some c
  | .commit c => some c
  | .rollbackTo c _ _ _ => some c
  | .flushContext c => some c
  | .addContext c _ => some c
  | .ejectContext c => some c
  | .transferContext c _ => some c
  | .findFreePhysreg _ _ => none
  | .prfSetReady _ _ _ _ _ => none
  | .prfRead _ _ _ => none
  | .renameRead c _ => some c
  | .wqInsert _ c _ _ _ _ _ => some c
  | .wqPop _ _ => none
  | .wqRemove _ c _ _ _ _ => some c
  | .ifqPush c _ _ => some c
  | .ifqPop c => some c
  | .wregRead c _ => some c
  | .wregWrite c _ _ => some c
  | .setFetchPc c _ => some c
  | .entryRead c _ _ => some c
  | .ctxStatus c => some c
  | .coreStatus _ => none
  | .fatalStatus => none

/-- The `CORE` field of a command that uses it. -/
def usesCore : Instr → Option (BitVec 8)
  | .nop => none
  | .dispatch _ _ => none
  | .markQueued _ _ _ _ => none
  | .issue _ _ _ _ => none
  | .complete _ _ _ _ => none
  | .commit _ => none
  | .rollbackTo _ _ _ _ => none
  | .flushContext _ => none
  | .addContext _ k => some k
  | .ejectContext _ => none
  | .transferContext _ k => some k
  | .findFreePhysreg k _ => some k
  | .prfSetReady k _ _ _ _ => some k
  | .prfRead k _ _ => some k
  | .renameRead _ _ => none
  | .wqInsert k _ _ _ _ _ _ => some k
  | .wqPop k _ => some k
  | .wqRemove k _ _ _ _ _ => some k
  | .ifqPush _ _ _ => none
  | .ifqPop _ => none
  | .wregRead _ _ => none
  | .wregWrite _ _ _ => none
  | .setFetchPc _ _ => none
  | .entryRead _ _ _ => none
  | .ctxStatus _ => none
  | .coreStatus k => some k
  | .fatalStatus => none

/-- The bank number of a bank command. -/
def usesBank : Instr → Option (BitVec 2)
  | .nop => none
  | .dispatch _ _ => none
  | .markQueued _ _ _ _ => none
  | .issue _ _ _ _ => none
  | .complete _ _ _ _ => none
  | .commit _ => none
  | .rollbackTo _ _ _ _ => none
  | .flushContext _ => none
  | .addContext _ _ => none
  | .ejectContext _ => none
  | .transferContext _ _ => none
  | .findFreePhysreg _ q => some q
  | .prfSetReady _ q _ _ _ => some q
  | .prfRead _ q _ => some q
  | .renameRead _ _ => none
  | .wqInsert _ _ _ _ _ _ _ => none
  | .wqPop _ _ => none
  | .wqRemove _ _ _ _ _ _ => none
  | .ifqPush _ _ _ => none
  | .ifqPop _ => none
  | .wregRead _ _ => none
  | .wregWrite _ _ _ => none
  | .setFetchPc _ _ => none
  | .entryRead _ _ _ => none
  | .ctxStatus _ => none
  | .coreStatus _ => none
  | .fatalStatus => none

/-- The commands that need an attached context (92_eei_decisions.md D70). -/
def needsAttached : Instr → Bool
  | .nop => false
  | .dispatch _ _ => true
  | .markQueued _ _ _ _ => true
  | .issue _ _ _ _ => true
  | .complete _ _ _ _ => true
  | .commit _ => true
  | .rollbackTo _ _ _ _ => true
  | .flushContext _ => true
  | .addContext _ _ => false
  | .ejectContext _ => true
  | .transferContext _ _ => true
  | .findFreePhysreg _ _ => false
  | .prfSetReady _ _ _ _ _ => false
  | .prfRead _ _ _ => false
  | .renameRead _ _ => true
  | .wqInsert _ _ _ _ _ _ _ => false
  | .wqPop _ _ => false
  | .wqRemove _ _ _ _ _ _ => false
  | .ifqPush _ _ _ => true
  | .ifqPop _ => true
  | .wregRead _ _ => false
  | .wregWrite _ _ _ => false
  | .setFetchPc _ _ => false
  | .entryRead _ _ _ => true
  | .ctxStatus _ => false
  | .coreStatus _ => false
  | .fatalStatus => false

/-- The context and the core a command names exist (60_exceptions.md R368 step 4). -/
abbrev IdsExist (i : Instr) (s : State) : Prop :=
  (∀ c ∈ usesCtx i, c.toNat < s.cfg.numContexts) ∧ (∀ k ∈ usesCore i, k.toNat < s.cfg.numCores)

/-- The changes of a register's ownership that one command can make (10_state.md R33). TRANSFER_CONTEXT makes those of its
flush, its eviction and its admission, one after another (44_context.md R293). -/
def ownershipMoves : Instr → List (RegState × RegState)
  | .nop => []
  | .dispatch _ _ => [(.free, .alloc)]
  | .markQueued _ _ _ _ => []
  | .issue _ _ _ _ => []
  | .complete _ _ _ _ => []
  | .commit _ => [(.alloc, .architected), (.architected, .free)]
  | .rollbackTo _ _ _ _ => [(.alloc, .free)]
  | .flushContext _ => [(.alloc, .free)]
  | .addContext _ _ => [(.free, .architected)]
  | .ejectContext _ => [(.architected, .free)]
  | .transferContext _ _ => [(.alloc, .free), (.architected, .free), (.free, .architected), (.alloc, .architected)]
  | .findFreePhysreg _ _ => []
  | .prfSetReady _ _ _ _ _ => []
  | .prfRead _ _ _ => []
  | .renameRead _ _ => []
  | .wqInsert _ _ _ _ _ _ _ => []
  | .wqPop _ _ => []
  | .wqRemove _ _ _ _ _ _ => []
  | .ifqPush _ _ _ => []
  | .ifqPop _ => []
  | .wregRead _ _ => []
  | .wregWrite _ _ _ => []
  | .setFetchPc _ _ => []
  | .entryRead _ _ _ => []
  | .ctxStatus _ => []
  | .coreStatus _ => []
  | .fatalStatus => []

/-! ### What a command leaves alone -/

/-- Nothing but the cores, the contexts, the sequence counter and the response differs: not the parameters, the latch, the
trace, the external memory, the counters, the port or the cycle. -/
abbrev SameAround (s t : State) : Prop :=
  t.cfg = s.cfg ∧ t.latch = s.latch ∧ t.trace = s.trace ∧ t.env = s.env ∧ t.port = s.port ∧ t.now = s.now

/-- The cores are as before. -/
abbrev SameCores (s t : State) : Prop := ∀ k, t.core k = s.core k

/-- Every core but `k` is as before. -/
abbrev SameCoresBut (k : Nat) (s t : State) : Prop := ∀ j, j ≠ k → t.core j = s.core j

/-- Every context but `c` is as before. -/
abbrev SameCtxsBut (c : Nat) (s t : State) : Prop := ∀ j, j ≠ c → t.ctx j = s.ctx j

/-- Every context is as before. -/
abbrev SameCtxs (s t : State) : Prop := ∀ j, t.ctx j = s.ctx j

/-- The physical registers are as before. -/
abbrev SameRegs (s t : State) : Prop := ∀ k b p, t.reg k b p = s.reg k b p

/-- A defect raised before the command has changed anything: the latch holds its code, the command's header and the cycle,
the response is FATAL, and what lies outside the engine is as before (60_exceptions.md R362). -/
abbrev Latched (s t : State) (d : Defect) (i : Instr) : Prop :=
  t.latch = ⟨true, d.code, i.header, s.now⟩ ∧ t.response = some (.fatal d.code) ∧ t.cfg = s.cfg ∧ t.trace = s.trace
    ∧ t.env.mem = s.env.mem ∧ t.port = s.port

/-- What a defect leaves of what lies outside the engine, whatever was done before the defect point: the latch holds its code, the
command's header and the cycle, the response is FATAL (60_exceptions.md R362), and parameters, port and cycle are as before. -/
abbrev LatchedLate (s t : State) (d : Defect) (i : Instr) : Prop :=
  t.latch = ⟨true, d.code, i.header, s.now⟩ ∧ t.response = some (.fatal d.code) ∧ t.cfg = s.cfg ∧ t.port = s.port
    ∧ t.now = s.now

/-! ### DISPATCH (40_dispatch_rename.md R154) -/

/-- The conditions under which DISPATCH creates its entries: an attached context, operands that agree with the class, room in
the ROB, in the LSQ for a load or store and in the issue queue, and a FREE register for a destination. -/
abbrev Dispatchable (s : State) (c : BitVec 8) (p : DispatchWords) : Prop :=
  s.latch.set = false ∧ c.toNat < s.cfg.numContexts ∧ (s.ctx c.toNat).attached = true
    ∧ archregFits (classify s.cfg p.opcode).dest p.archreg = true
    ∧ (isMem (classify s.cfg p.opcode) = true → sizeLegal p.memSize = true)
    ∧ (s.ctx c.toNat).robRing.num ≠ (s.ctx c.toNat).robRing.cap
    ∧ (isMem (classify s.cfg p.opcode) = true → (s.ctx c.toNat).lsqRing.num ≠ (s.ctx c.toNat).lsqRing.cap)
    ∧ (s.core (s.ctx c.toNat).core).iqCount ≠ iqCapOf s.cfg (s.ctx c.toNat).core
    ∧ ((classify s.cfg p.opcode).dest ≠ .none →
        (s.findFree (s.ctx c.toNat).core (bankOf p.archreg.toNat)).isSome = true)

/-- The register a DISPATCH takes and the mapping it displaces, none without a destination. -/
def destOf (s : State) (c : BitVec 8) (p : DispatchWords) : Option (Nat × Nat) :=
  if (classify s.cfg p.opcode).dest = .none then none
  else (s.findFree (s.ctx c.toNat).core (bankOf p.archreg.toNat)).map (fun q =>
    (q, (s.ctx c.toNat).renameOf p.archreg.toNat))

/-- An instruction as the driver brings it: the cycle, the words of its DISPATCH, and the bytes the executor writes to memory
before it (20_memory.md R90). -/
abbrev Fed := Word × DispatchWords × List Byte

/-- Whether the response is OK. -/
abbrev AnswersOk (t : State) : Prop := t.response.map (fun r => r.status) = some .ok

/-- The state after one instruction of context `c` has been executed and its DISPATCH answered OK; `none` if it is not. -/
def dispatchOne (c : BitVec 8) (f : Fed) (s : State) : Option State :=
  match exec (.dispatch c f.2.1) (executorStore f.2.1.memAddr f.2.2 { s with now := f.1 }) with
  | .next t => if AnswersOk t then some t else none
  | .fault _ => none
  | .refused _ => none

/-- The state after the given instructions of context `c` have been executed and dispatched, in order, every DISPATCH answered
OK; `none` if one is not. -/
def dispatchAll (c : BitVec 8) : List Fed → State → Option State
  | [], s => some s
  | f :: l, s =>
    match dispatchOne c f s with
    | none => none
    | some t => dispatchAll c l t

/-- What the driver sends between two points of a run of context `c`: an instruction of `c`, executed and dispatched, or another
command at its cycle. -/
inductive Sent where
  | fed (f : Fed)
  | other (now : Word) (i : Instr)
  deriving DecidableEq, Repr

/-- The instructions dispatched among what the driver sends. -/
def fedOf (l : List Sent) : List Fed := l.filterMap (fun v =>
  match v with
  | .fed f => some f
  | .other _ _ => none)

/-- The FREE set of each bank of core `k` is as before (43_rollback.md R264 item 3). -/
abbrev SameFree (s t : State) (k : Nat) : Prop := ∀ b ∈ everyBank, ∀ p < s.cfg.prfBankSize, t.isFree k b p = s.isFree k b p

/-- From `s` the driver's commands lead to `t`: each instruction of context `c` is dispatched, and every other command raises no
defect, leaves the FREE set of the core of `c` alone (43_rollback.md R264 item 3), dispatches nothing of `c`, and does not
transfer `c`, which would flush it. -/
def Sends (c : BitVec 8) : List Sent → State → State → Prop
  | [], s, t => t = s
  | .fed f :: l, s, t => ∃ u, dispatchOne c f s = some u ∧ Sends c l u t
  | .other w i :: l, s, t => ∃ u, exec i { s with now := w } = .next u ∧ u.latch.set = false
      ∧ SameFree s u (s.ctx c.toNat).core ∧ (∀ p, i = .dispatch c p → ¬ AnswersOk u) ∧ (∀ k, i ≠ .transferContext c k)
      ∧ Sends c l u t

/-- The shadow value given to the oldest of the instructions that writes architected register `a`, `d` where none does. -/
def oldestShadow (cfg : Config.Params) (l : List Fed) (a : Nat) (d : Word) : Word :=
  ((l.find? (fun f => decide ((classify cfg f.2.1.opcode).dest ≠ .none) && decide (f.2.1.archreg.toNat = a))).map
    (fun f => f.2.1.shadowValue)).getD d

/-- Conservation and rename restoration (43_rollback.md R264 items 3, 4): after the squash `t` of what was sent from `s` to `s1`,
the FREE set of the context's core and its rename table are those of `s`, and each working register that a dispatched
instruction writes holds the shadow value of the oldest one. -/
abbrev Conserved (s s1 t : State) (c : Nat) (l : List Sent) : Prop :=
  SameFree s t (s.ctx c).core
    ∧ (∀ a, (t.ctx c).renameOf a = (s.ctx c).renameOf a)
    ∧ ∀ a, (t.ctx c).wregOf a = oldestShadow s.cfg (fedOf l) a ((s1.ctx c).wregOf a)

/-- After the squash `t` of a run of nothing but DISPATCHes from `s`, ownership, live entries, issue-queue counts, instruction
counters and other contexts are those of `s`, and only the registers that the run writes hold shadow values. -/
abbrev RunUndone (s t : State) (c : Nat) (l : List Fed) : Prop :=
  (∀ k b p, (t.reg k b p).state = (s.reg k b p).state)
    ∧ (∀ a, (t.ctx c).wregOf a = oldestShadow s.cfg l a ((s.ctx c).wregOf a))
    ∧ (∀ b, liveEntries (t.ctx c) b = liveEntries (s.ctx c) b)
    ∧ (t.ctx c).icount = (s.ctx c).icount ∧ (∀ k, (t.core k).iqCount = (s.core k).iqCount)
    ∧ t.env.insnGlobal = s.env.insnGlobal ∧ (∀ j, Table.get 0 t.env.insn j = Table.get 0 s.env.insn j)
    ∧ SameCtxsBut c s t

/-- The driver's duty of 70_reset_and_hazards.md R395 item 2: each store's shadow is what memory holds just before the store is
executed, as far as its bytes are known (notes/assumptions/10.md), and only stores write. -/
def captured (cfg : Config.Params) (m : Memory) : List Fed → Prop
  | [] => True
  | (_, p, bytes) :: l =>
    (if (classify cfg p.opcode).isStore = true then
        bytes.length = p.memSize.toNat
          ∧ ∀ k < bytes.length, ∀ v, m.read (p.memAddr + BitVec.ofNat 64 k).toNat = some v →
              v = p.shadowMem.extractLsb' (8 * k) 8
      else bytes = [])
    ∧ captured cfg (m.writeBytes p.memAddr bytes) l

/-! ### Squash (43_rollback.md R260 to R264) -/

/-- The `n` youngest live ROB entries, oldest first: what a squash of `n` entries discards. -/
def squashed (x : Context) (n : Nat) : List Entry := (liveEntries x .rob).drop (x.robRing.num - n)

/-- How many loads and stores are among the `n` youngest. -/
def squashedMems (x : Context) (n : Nat) : Nat := ((squashed x n).filter (fun e => e.eaComp)).length

/-- How many of the `n` youngest hold an issue-queue slot. -/
def squashedInIq (x : Context) (n : Nat) : Nat := ((squashed x n).filter (fun e => e.inIq)).length

/-- The slots of a buffer that a squash of the `n` youngest instructions discards. -/
def squashedSlots (x : Context) (n : Nat) : Buf → List Nat
  | .rob => (liveSlots x.robRing).drop (x.robRing.num - n)
  | .lsq => (liveSlots x.lsqRing).drop (x.lsqRing.num - squashedMems x n)

/-- The stores that a squash of the `n` youngest instructions undoes, in the order it undoes them: youngest first
(20_memory.md R91). -/
def undoneStores (x : Context) (n : Nat) : List Entry :=
  (((liveEntries x .lsq).drop (x.lsqRing.num - squashedMems x n)).reverse).filter (fun l => l.isStore)

/-- The oldest of a list of entries, oldest first, that writes architected register `a`. -/
def firstWriter (l : List Entry) (a : Nat) : Option Entry :=
  l.find? (fun e => decide (e.archreg.toNat = a) && e.physreg.isSome)

/-- The external memory accepts the next `n` replays: the answers already decided say so (20_memory.md R80,
notes/assumptions/5.md). -/
abbrev Accepts (s : State) (n : Nat) : Prop := ∀ j < n, (s.env.draws[j]?).any (fun d => !drawFaults d) = true

/-- The event of an undone store whose replay the memory accepts (20_memory.md R80, R82). -/
def replayEvent (l : Entry) : Event := .memWrite l.memAddr l.memSize (bytesOf l.shadowMem l.memSize.toNat) false

/-- Whether address `a` is one of the `n` bytes from `addr` on, modulo `2^64` (20_memory.md R83). -/
def covers (addr : Word) (n a : Nat) : Prop := ∃ k < n, a = (addr + BitVec.ofNat 64 k).toNat

/-- Whether one of the instructions is a store that covers address `a`. -/
def storesTo (cfg : Config.Params) (l : List Fed) (a : Nat) : Prop :=
  ∃ f ∈ l, (classify cfg f.2.1.opcode).isStore = true ∧ covers f.2.1.memAddr f.2.1.memSize.toNat a

/-- The memory after the replays of a list of stores, in order (20_memory.md R82, R91). -/
def replayed (m : Memory) : List Entry → Memory
  | [] => m
  | l :: t => replayed (m.writeBytes l.memAddr (bytesOf l.shadowMem l.memSize.toNat)) t

/-- Squash step 4 over the `n` youngest: their registers are FREE, and each register they write is mapped where the oldest of
its writers found it mapped. -/
abbrev RegsUndone (s t : State) (c n : Nat) : Prop :=
  (∀ k b p, t.reg k b p
      = if k = (s.ctx c).core ∧ (squashed (s.ctx c) n).any (fun e =>
            decide (e.physreg = some p) && decide (bankOf e.archreg.toNat = b)) = true
        then { s.reg k b p with state := .free } else s.reg k b p)
    ∧ ∀ a, (t.ctx c).renameOf a
        = ((firstWriter (squashed (s.ctx c) n) a).bind (fun e => e.oldPhysreg)).getD ((s.ctx c).renameOf a)

/-- Squash step 4 over the `n` youngest: each working register they write holds the shadow value of the oldest of its
writers. -/
abbrev WregsUndone (s t : State) (c n : Nat) : Prop :=
  ∀ a, (t.ctx c).wregOf a
    = ((firstWriter (squashed (s.ctx c) n) a).map (fun e => e.shadowValue)).getD ((s.ctx c).wregOf a)

/-- Squash steps 1 to 3 over the `n` youngest: their memberships and their issue-queue slots are given up; slot rosters and
other cores are as before. -/
abbrev QueuesUndone (s t : State) (c n : Nat) : Prop :=
  (∀ k, (t.core k).iqCount = (s.core k).iqCount - (if k = (s.ctx c).core then squashedInIq (s.ctx c) n else 0))
    ∧ ∀ k q, (t.core k).wq q
        = if k = (s.ctx c).core then
            ((s.core k).wq q).filter (fun m => !(decide (m.ctx = c) && (squashedSlots (s.ctx c) n m.buf).contains m.idx))
          else (s.core k).wq q

/-- Squash step 1 over the `n` youngest, and the counting: every undone store's shadow is back in memory, and both counters are
lower by `n` (70_reset_and_hazards.md R400). -/
abbrev MemoryUndone (s t : State) (c n : Nat) : Prop :=
  t.env.mem = replayed s.env.mem (undoneStores (s.ctx c) n)
    ∧ t.env.insnGlobal = s.env.insnGlobal - n
    ∧ (∀ j, Table.get 0 t.env.insn j = Table.get 0 s.env.insn j - (if j = c then (n : Int) else 0))
    ∧ t.env.draws = s.env.draws.drop (undoneStores (s.ctx c) n).length
    ∧ t.env.drawn = s.env.drawn + (undoneStores (s.ctx c) n).length

/-! ### Admission and eviction (44_context.md R290 to R292) -/

/-- The FREE registers of a bank, in ascending order. -/
def freeList (s : State) (k : Nat) (b : Bank) : List Nat := (List.range s.cfg.prfBankSize).filter (fun p => s.isFree k b p)

/-- Context `c` has been admitted to slot `n` of core `k`, whose registers were `regs` and whose FREE registers were `free`:
attached, empty, with the slot's capacities and 64 leased registers. -/
abbrev Admitted (s t : State) (c k n : Nat) (free : Bank → List Nat) (regs : Bank → Nat → PhysReg) : Prop :=
  (t.ctx c).attached = true ∧ (t.ctx c).core = k ∧ (t.ctx c).slot = n
    ∧ (t.ctx c).robRing = ⟨0, 0, 0, (template s.cfg k n).robCap⟩ ∧ (t.ctx c).lsqRing = ⟨0, 0, 0, (template s.cfg k n).lsqCap⟩
    ∧ (t.ctx c).ifqRing = ⟨0, 0, 0, (template s.cfg k n).ifqCap⟩ ∧ (t.ctx c).icount = 0
    ∧ (t.core k).slotOf n = some c
    ∧ (∀ a < 32, (free .int)[a]? = some ((t.ctx c).renameOf a))
    ∧ (∀ a < 32, (free .fp)[a]? = some ((t.ctx c).renameOf (32 + a)))
    ∧ ∀ b p, t.reg k b p = if ((free b).take 32).contains p then ⟨.architected, 0, 0, s.now⟩ else regs b p

/-- The registers that context `c` holds: those of its live entries and its committed mappings (10_state.md R58). -/
def holds (x : Context) (b : Bank) (p : Nat) : Bool :=
  (liveEntries x .rob).any (fun e => decide (e.physreg = some p) && decide (bankOf e.archreg.toNat = b))
    || (List.range 64).any (fun a => decide (bankOf a = b) && decide (cmap x a = some p))

/-- The register record `prf[k][b][p]` once context `c` has been flushed and evicted: FREE where the context held it. -/
def regGivenUp (s : State) (c k : Nat) (b : Bank) (p : Nat) : PhysReg :=
  if k = (s.ctx c).core ∧ holds (s.ctx c) b p = true then { s.reg k b p with state := .free } else s.reg k b p

/-- The FREE registers of a bank of core `k`, in ascending order, once context `c` has been flushed and evicted. -/
def freeGivenUp (s : State) (c k : Nat) (b : Bank) : List Nat :=
  (List.range s.cfg.prfBankSize).filter (fun p => decide ((regGivenUp s c k b p).state = .free))

/-- Slot `n` of core `k` is empty once context `c` has been evicted. -/
def emptyGivenUp (s : State) (c k n : Nat) : Prop :=
  (s.core k).slotOf n = none ∨ k = (s.ctx c).core ∧ n = (s.ctx c).slot

/-- Every committed register of the context is ready at `now` (44_context.md R294). -/
abbrev TimestampsPast (s : State) (c : Nat) : Prop :=
  ∀ a < 64, ∀ p ∈ cmap (s.ctx c) a,
    (s.reg (s.ctx c).core (bankOf a) p).readyCycle ≤ s.now ∧ (s.reg (s.ctx c).core (bankOf a) p).specReadyCycle ≤ s.now

end Sys2Proof.Safety
end

