-- ==== Sys2Proof/Certificates/Slice0/Obligations.lean ====
section
/-! DEFINITION. The statements for the provers: what each command does and leaves alone, what every step keeps, and how the
command words read. -/

open Sys2Proof Sys2Proof.Machine Sys2Proof.Safety

/-! ### Encoding (30_encoding.md) -/

/-- Decoding the header and payload of any command, with every operand at any value, gives that command back
(30_encoding.md R111, R113, R115). -/
def Obligations.DecodeOfEncode : Prop := ∀ i : Instr, decode (encode i) = .ok i

/-- A command that decodes has exactly the header the opcode map gives the instruction, takes as its operands the first payload
lanes, as many as its row says, and does not look at the others (30_encoding.md R112, R113, R119). -/
def Obligations.DecodedHeaderAndLanes : Prop :=
  ∀ (c : Command) (i : Instr), decode c = .ok i →
    c.header = i.header
      ∧ c.header &&& i.row.mask = i.row.bits
      ∧ i.payload = c.payload.take i.row.payloadWords
      ∧ ∀ p : Payload, p.take i.row.payloadWords = c.payload.take i.row.payloadWords → decode ⟨c.header, p⟩ = .ok i

/-- While the latch is clear, a header with an unassigned `OP` is answered ILLEGAL BAD_OPCODE, and one with an assigned `OP`
that is no command's header is answered ILLEGAL RESERVED_BITS; nothing but the port's head, the cycle and the response changes
(30_encoding.md R112, R114, 60_exceptions.md R368 step 3). -/
def Obligations.MalformedHeaderIsIllegal : Prop :=
  ∀ (s : State) (c : Command) (w : Word) (rest : List PortInput),
    s.port = .command c w :: rest → s.latch.set = false →
      (27 ≤ (headerOp c.header).toNat →
        step s = .next (State.answer { s with port := rest, now := w } (.illegal .badOpcode)))
      ∧ ((headerOp c.header).toNat < 27 → (∀ i : Instr, i.header ≠ c.header) →
        step s = .next (State.answer { s with port := rest, now := w } (.illegal .reservedBits)))

/-- Words written out from 30_encoding.md R111 and R113 decode to the commands they stand for: at least one for each of the
families of files 40 to 45, and for each set of header fields the opcode map knows. -/
def Obligations.WrittenWordsDecode : Prop :=
  ∀ p : Payload,
    decode ⟨0x00000000, p⟩ = .ok .nop
      ∧ decode ⟨0x00020001, p⟩ = .ok (.dispatch 2 ⟨p.p0, p.p1, p.p2, p.p3, p.p4, p.p5, p.p6, p.p7, p.p8, p.p9⟩)
      ∧ decode ⟨0x00020002, p⟩ = .ok (.markQueued 2 .rob p.p0 p.p1)
      ∧ decode ⟨0x00010103, p⟩ = .ok (.issue 1 .lsq p.p0 p.p1)
      ∧ decode ⟨0x00FF0005, p⟩ = .ok (.commit 255)
      ∧ decode ⟨0x00000106, p⟩ = .ok (.rollbackTo 0 true p.p0 p.p1)
      ∧ decode ⟨0x00010007, p⟩ = .ok (.flushContext 1)
      ∧ decode ⟨0x0103000A, p⟩ = .ok (.transferContext 3 1)
      ∧ decode ⟨0x0100004D, p⟩ = .ok (.prfRead 1 1 p.p0)
      ∧ decode ⟨0x010201CF, p⟩ = .ok (.wqInsert 1 2 .ready .lsq p.p0 p.p1 p.p2)
      ∧ decode ⟨0x00000090, p⟩ = .ok (.wqPop 0 .event)
      ∧ decode ⟨0x00030017, p⟩ = .ok (.entryRead 3 .rob p.p0)
      ∧ decode ⟨0x02000019, p⟩ = .ok (.coreStatus 2)
      ∧ decode ⟨0x0000001A, p⟩ = .ok .fatalStatus

/-! ### Steps and reset -/

/-- When the command at the head of the port decodes to an instruction, the step is the execution of that instruction at the
state with the command taken off the port and its cycle accepted, and nothing else (30_encoding.md R110). -/
def Obligations.StepRunsDecodedCommand : Prop :=
  ∀ (s : State) (c : Command) (w : Word) (rest : List PortInput) (i : Instr),
    s.port = .command c w :: rest → decode c = .ok i → step s = exec i { s with port := rest, now := w }

/-- With nothing pending a step changes nothing; a write of the executor reaches exactly the bytes it names, wrapping at
`2^64`, and nothing else (the model's inputs, notes/assumptions/4.md and 12.md; 20_memory.md section 4). -/
def Obligations.IdleAndExecutorSteps : Prop :=
  (∀ s : State, s.port = [] → step s = .next s)
    ∧ ∀ (s : State) (addr : Word) (bytes : List Byte) (rest : List PortInput),
        s.port = .executorStore addr bytes :: rest → bytes.length ≤ 2 ^ 64 →
          ∃ t, step s = .next t ∧ t.port = rest
            ∧ (∀ k < bytes.length, t.env.mem.read (addr + BitVec.ofNat 64 k).toNat = bytes[k]?)
            ∧ (∀ a, ¬ covers addr bytes.length a → t.env.mem.read a = s.env.mem.read a)
            ∧ t.env.insnGlobal = s.env.insnGlobal ∧ t.env.insn = s.env.insn ∧ t.env.draws = s.env.draws
            ∧ t.env.drawn = s.env.drawn ∧ t.cfg = s.cfg ∧ t.eng = s.eng ∧ t.latch = s.latch ∧ t.trace = s.trace
            ∧ t.now = s.now ∧ t.response = s.response

/-- The reset state, and the state after the reset input from any state, hold the values 10_state.md R69 gives. That the reset
input keeps the parameters, the surroundings and the inputs still pending is the model's choice (notes/assumptions/13.md). -/
def Obligations.ResetGivesResetValues : Prop :=
  ResetValues State.reset
    ∧ ∀ (s : State) (rest : List PortInput), s.port = .reset :: rest →
        ∃ t, step s = .next t ∧ ResetValues t ∧ t.cfg = s.cfg ∧ t.env = s.env ∧ t.port = rest

/-- Every command ends in one response. STALL, NONE, STALE and ILLEGAL, and the REJECT of ADD_CONTEXT, change nothing but the
response (a REJECT of TRANSFER_CONTEXT, the one other command that answers it, and a FATAL may have changed the state); the detail of OK, NONE and STALE is 0; STALL, NONE, STALE and ILLEGAL carry no data; and a command
other than FATAL_STATUS answers FATAL exactly if the latch is set after it (60_exceptions.md R360, 30_encoding.md R117). -/
def Obligations.EveryCommandAnswers : Prop :=
  ∀ (i : Instr) (s : State), ∃ t r, exec i s = .next t ∧ t.response = some r
    ∧ (r.status = .stall ∨ r.status = .none ∨ r.status = .stale ∨ r.status = .illegal → t = s.answer r ∧ r.data = [])
    ∧ (r.status = .reject → t = s.answer r ∨ ∃ c k, i = .transferContext c k)
    ∧ (r.status = .ok ∨ r.status = .none ∨ r.status = .stale → r.detail = 0)
    ∧ (i ≠ .fatalStatus → (r.status = .fatal ↔ t.latch.set = true))

/-! ### What every step keeps -/

/-- Right after reset the invariant holds, for every legal configuration (10_state.md R69, section 5). -/
def Obligations.InvAtReset : Prop :=
  Inv State.reset ∧ ∀ p : Config.Params, p.valid = true → Inv (State.resetWith p)

/-- Every step keeps the invariant: the configuration legal, the memory canonical, and while the latch is clear the ring
arithmetic, attachment, entry fields, ROB/LSQ correspondence, issue-queue counts, wakeup-queue memberships, register ownership
and rename chains of 10_state.md section 5. -/
def Obligations.InvKeptByStep : Prop := ∀ s t : State, Inv s → step s = .next t → Inv t

/-- Every step keeps the arithmetic of the three circular buffers of every context (10_state.md R37, R38, R47, R56). -/
def Obligations.RingsKeptByStep : Prop :=
  ∀ s t : State, s.cfg.valid = true → (s.latch.set = false → RingsOk s) → step s = .next t →
    t.latch.set = false → RingsOk t

/-- No step changes the parameters (70_reset_and_hazards.md R391), and every step keeps the memory's canonical form (the
model's own, notes/assumptions/10.md). -/
def Obligations.ConfigurationAndMemoryFormKept : Prop :=
  ∀ s t : State, step s = .next t → t.cfg = s.cfg ∧ (s.env.mem.wf = true → t.env.mem.wf = true)

/-- While the latch is set every command except FATAL_STATUS answers FATAL with the latched code and changes nothing, one that
does not decode included, and only the reset input clears the latch (60_exceptions.md R364). -/
def Obligations.FatalLatchHolds : Prop :=
  ∀ s : State, s.latch.set = true →
    (∀ i : Instr, i ≠ .fatalStatus → exec i s = .next (s.answer (.fatal s.latch.code)))
      ∧ (∀ (c : Command) (w : Word) (rest : List PortInput) (e : DecodeError),
          s.port = .command c w :: rest → decode c = .error e →
            step s = .next (State.answer { s with port := rest, now := w } (.fatal s.latch.code)))
      ∧ (∀ t, step s = .next t → t.latch.set = false → ∃ rest, s.port = .reset :: rest)
      ∧ (∀ rest, s.port = .reset :: rest → ∃ t, step s = .next t ∧ t.latch.set = false)

/-- A command that sets the latch sets it to a defect's code, with the command's header word and its cycle, answers FATAL with
that code, and leaves the events already emitted in the trace (60_exceptions.md R361, R362). -/
def Obligations.DefectLatchesHeaderAndCycle : Prop :=
  ∀ (s t : State) (c : Command) (w : Word) (rest : List PortInput),
    s.latch.set = false → s.port = .command c w :: rest → step s = .next t → t.latch.set = true →
      ∃ d : Defect, t.latch = ⟨true, d.code, c.header, w⟩ ∧ t.response = some (.fatal d.code)
        ∧ 1 ≤ d.code.toNat ∧ d.code.toNat ≤ 12 ∧ s.trace <+: t.trace

/-- Only the reset input takes an event out of the trace (10_state.md R53, R69). -/
def Obligations.TraceOnlyGrows : Prop :=
  ∀ s t : State, step s = .next t → (∀ rest, s.port ≠ .reset :: rest) → s.trace <+: t.trace

/-- A command changes no context but the one it names, and no core but the one it names and the one its context is attached to
(10_state.md section 1, 60_exceptions.md section 4). -/
def Obligations.OtherContextsAndCoresUntouched : Prop :=
  ∀ (i : Instr) (s t : State), exec i s = .next t → t.latch.set = false →
    (∀ j, (∀ c ∈ usesCtx i, c.toNat ≠ j) → t.ctx j = s.ctx j)
      ∧ ∀ k, (∀ k' ∈ usesCore i, k'.toNat ≠ k) →
          (∀ c ∈ usesCtx i, (s.ctx c.toNat).attached = true → (s.ctx c.toNat).core ≠ k) → t.core k = s.core k

/-- No command decrements a generation counter, and none but DISPATCH changes one (10_state.md R44). -/
def Obligations.GenerationsNeverDecrease : Prop :=
  ∀ (i : Instr) (s t : State), exec i s = .next t → t.latch.set = false → ∀ c b n,
    (s.ctx c).gen b n ≤ (t.ctx c).gen b n
      ∧ ((∀ c' p, i ≠ .dispatch c' p) → (t.ctx c).gen b n = (s.ctx c).gen b n)

/-- The sequence counter is the number the next DISPATCH answered OK gives its instruction; that DISPATCH increments it, modulo
`2^64`, and no other command changes it (10_state.md R52). -/
def Obligations.SequenceCounterNeverRewound : Prop :=
  ∀ (i : Instr) (s t : State), exec i s = .next t → t.latch.set = false →
    ((∃ c p, i = .dispatch c p) ∧ t.response.map (fun r => r.status) = some .ok →
        t.eng.nextSeq = s.eng.nextSeq + 1 ∧ t.response.bind (fun r => r.data[4]?) = some s.eng.nextSeq
          ∧ ∀ c p, i = .dispatch c p → ((t.ctx c.toNat).entry .rob (s.ctx c.toNat).robRing.tail).seq = s.eng.nextSeq)
      ∧ (¬((∃ c p, i = .dispatch c p) ∧ t.response.map (fun r => r.status) = some .ok) → t.eng.nextSeq = s.eng.nextSeq)

/-- The ownership state of a physical register changes only by the transitions of 10_state.md R33, each by its own command. -/
def Obligations.OwnershipMovesAreLegal : Prop :=
  ∀ (i : Instr) (s t : State), exec i s = .next t → t.latch.set = false → ∀ k b p,
    (t.reg k b p).state ≠ (s.reg k b p).state → ((s.reg k b p).state, (t.reg k b p).state) ∈ ownershipMoves i

/-- Only a squash writes memory: every other command leaves memory and trace alone, and no command
changes a byte outside the live stores of the context it names (20_memory.md sections 1 and 4). That this holds of a command
that ends in a defect too is the model's choice: memory is kept as the defect point left it (notes/assumptions/8.md), and a
faulting replay lands on its own bytes only (notes/assumptions/10.md). -/
def Obligations.OnlySquashedStoresWriteMemory : Prop :=
  (∀ (i : Instr) (s t : State), exec i s = .next t →
      (∀ c m slot gen, i ≠ .rollbackTo c m slot gen) → (∀ c, i ≠ .flushContext c) → (∀ c k, i ≠ .transferContext c k) →
        (∀ a, t.env.mem.read a = s.env.mem.read a) ∧ t.trace = s.trace)
    ∧ ∀ (i : Instr) (s t : State) (a : Nat), EngineOk s → exec i s = .next t →
        (∀ c ∈ usesCtx i, ∀ l ∈ liveEntries (s.ctx c.toNat) .lsq, l.isStore = true → ¬ covers l.memAddr l.memSize.toNat a) →
          t.env.mem.read a = s.env.mem.read a

/-! ### The common checks (60_exceptions.md R368) -/

/-- A context or core that does not exist is answered ILLEGAL BAD_ID, and after that a bank number 2 or 3 ILLEGAL BAD_BANK,
with nothing changed (30_encoding.md R112). -/
def Obligations.BadIdOrBankIsIllegal : Prop :=
  ∀ (i : Instr) (s : State), s.latch.set = false →
    ((∃ c ∈ usesCtx i, s.cfg.numContexts ≤ c.toNat) ∨ (∃ k ∈ usesCore i, s.cfg.numCores ≤ k.toNat) →
        exec i s = .next (s.answer (.illegal .badId)))
      ∧ (IdsExist i s → (∃ q ∈ usesBank i, 2 ≤ q.toNat) → exec i s = .next (s.answer (.illegal .badBank)))

/-- A command that needs an attached context raises NOT_ATTACHED for a detached one, and ADD_CONTEXT raises ALREADY_ATTACHED
for an attached one; and no other command raises either, nor do these otherwise (60_exceptions.md section 3,
92_eei_decisions.md D70). -/
def Obligations.AttachmentIsChecked : Prop :=
  (∀ (i : Instr) (s : State) (c : BitVec 8), s.latch.set = false → IdsExist i s → usesCtx i = some c →
      needsAttached i = true → (s.ctx c.toNat).attached = false → ∃ t, exec i s = .next t ∧ Latched s t .notAttached i)
    ∧ (∀ (s : State) (c k : BitVec 8), s.latch.set = false → c.toNat < s.cfg.numContexts → k.toNat < s.cfg.numCores →
        (s.ctx c.toNat).attached = true →
          ∃ t, exec (.addContext c k) s = .next t ∧ Latched s t .alreadyAttached (.addContext c k))
    ∧ ∀ (i : Instr) (s t : State), s.latch.set = false → exec i s = .next t →
        (t.response = some (.fatal Defect.notAttached.code) →
          needsAttached i = true ∧ IdsExist i s ∧ ∃ c, usesCtx i = some c ∧ (s.ctx c.toNat).attached = false)
        ∧ (t.response = some (.fatal Defect.alreadyAttached.code) →
          ∃ c k, i = .addContext c k ∧ IdsExist i s ∧ (s.ctx c.toNat).attached = true)

/-- A slot or register index out of its range is answered ILLEGAL BAD_INDEX, and after that a handle that is not live is answered
STALE, both with nothing changed (30_encoding.md R116, 41_queue_model.md R198). -/
def Obligations.BadIndexThenStale : Prop :=
  ∀ (s : State) (c k : BitVec 8) (q : Queue) (bank : BitVec 2) (b : Buf) (m : Bool) (slot gen key : Word),
    s.latch.set = false → c.toNat < s.cfg.numContexts → k.toNat < s.cfg.numCores → bank.toNat < 2 →
      ((s.ctx c.toNat).attached = true → ((s.ctx c.toNat).ring b).cap ≤ slot.toNat →
        (∀ i ∈ [Instr.markQueued c b slot gen, .issue c b slot gen, .complete c b slot gen, .entryRead c b slot],
          exec i s = .next (s.answer (.illegal .badIndex)))
        ∧ (b = .rob → exec (.rollbackTo c m slot gen) s = .next (s.answer (.illegal .badIndex))))
      ∧ (s.cfg.maxCap ≤ slot.toNat →
        ∀ i ∈ [Instr.wqInsert k c q b slot gen key, .wqRemove k c q b slot gen],
          exec i s = .next (s.answer (.illegal .badIndex)))
      ∧ (s.cfg.prfBankSize ≤ slot.toNat →
        ∀ i ∈ [Instr.prfRead k bank slot, .prfSetReady k bank slot gen key],
          exec i s = .next (s.answer (.illegal .badIndex)))
      ∧ ((s.ctx c.toNat).attached = true → slot.toNat < ((s.ctx c.toNat).ring b).cap →
        s.live c.toNat b slot.toNat gen.toNat = false →
        (∀ i ∈ [Instr.markQueued c b slot gen, .issue c b slot gen, .complete c b slot gen],
          exec i s = .next (s.answer .stale))
        ∧ (b = .rob → exec (.rollbackTo c m slot gen) s = .next (s.answer .stale)))
      ∧ (slot.toNat < s.cfg.maxCap →
        s.live c.toNat b slot.toNat gen.toNat = false ∨ (s.ctx c.toNat).core ≠ k.toNat →
        ∀ i ∈ [Instr.wqInsert k c q b slot gen key, .wqRemove k c q b slot gen], exec i s = .next (s.answer .stale))

/-! ### Dispatch, registers and renaming (40_dispatch_rename.md) -/

/-- A DISPATCH that finds every resource writes the new ROB entry at the tail with every field the rule gives, increments the
slot's generation, advances the tail, and takes an issue-queue slot and a sequence number; it answers OK with the seven data
words (40_dispatch_rename.md section 2; a number too large for its data word as notes/assumptions/20.md says). -/
def Obligations.DispatchCreatesRobEntry : Prop :=
  ∀ (s : State) (c : BitVec 8) (p : DispatchWords), Dispatchable s c p →
    let x := s.ctx c.toNat
    let kl := classify s.cfg p.opcode
    let dest := destOf s c p
    ∃ t, exec (.dispatch c p) s = .next t
      ∧ t.response = some (.ok [natWord x.robRing.tail, natWord (x.gen .rob x.robRing.tail + 1),
          if isMem kl then natWord x.lsqRing.tail else minusOne,
          if isMem kl then natWord (x.gen .lsq x.lsqRing.tail + 1) else 0,
          s.eng.nextSeq, optWord (dest.map Prod.fst), optWord (dest.map Prod.snd)])
      ∧ (t.ctx c.toNat).entry .rob x.robRing.tail =
          { seq := s.eng.nextSeq, opcode := p.opcode, pc := p.pc, nextPc := p.nextPc, predPc := p.predPc
            physreg := dest.map Prod.fst, oldPhysreg := dest.map Prod.snd
            archreg := if kl.dest = .none then 0 else BitVec.ofNat 6 p.archreg.toNat
            destFormat := kl.dest, eaComp := isMem kl, isLoad := kl.isLoad, isStore := kl.isStore
            stackRecoverIdx := p.stackRecoverIdx
            shadowValue := if kl.dest = .none then 0 else p.shadowValue
            memAddr := 0, memSize := 0, shadowMem := 0
            dispatched := true, queued := false, issued := false, completed := false, inIq := true }
      ∧ (∀ j, j ≠ x.robRing.tail → (t.ctx c.toNat).entry .rob j = x.entry .rob j
          ∧ (t.ctx c.toNat).gen .rob j = x.gen .rob j)
      ∧ (t.ctx c.toNat).gen .rob x.robRing.tail = x.gen .rob x.robRing.tail + 1
      ∧ (t.ctx c.toNat).robRing
          = ⟨x.robRing.head, (x.robRing.tail + 1) % x.robRing.cap, x.robRing.num + 1, x.robRing.cap⟩
      ∧ (t.ctx c.toNat).icount = x.icount + 1
      ∧ (t.core x.core).iqCount = (s.core x.core).iqCount + 1
      ∧ t.eng.nextSeq = s.eng.nextSeq + 1

/-- A DISPATCH with a destination takes the lowest FREE register of its bank: ALLOC, not yet ready, stamped with the cycle; the
rename entry of the destination names it; every other register and rename entry is unchanged, all of them without a
destination (40_dispatch_rename.md sections 1 and 2). -/
def Obligations.DispatchRenamesDestination : Prop :=
  ∀ (s t : State) (c : BitVec 8) (p : DispatchWords), Dispatchable s c p → exec (.dispatch c p) s = .next t →
    let x := s.ctx c.toNat
    let bank := bankOf p.archreg.toNat
    ((classify s.cfg p.opcode).dest = .none →
        SameRegs s t ∧ ∀ a, (t.ctx c.toNat).renameOf a = x.renameOf a)
      ∧ ((classify s.cfg p.opcode).dest ≠ .none →
        ∃ q, q < s.cfg.prfBankSize ∧ (s.reg x.core bank q).state = .free
          ∧ (∀ r < q, (s.reg x.core bank r).state ≠ .free)
          ∧ destOf s c p = some (q, x.renameOf p.archreg.toNat)
          ∧ (∀ k b r, t.reg k b r
              = if k = x.core ∧ b = bank ∧ r = q then ⟨.alloc, notReady, notReady, s.now⟩ else s.reg k b r)
          ∧ ∀ a, (t.ctx c.toNat).renameOf a = if a = p.archreg.toNat then q else x.renameOf a)

/-- A DISPATCH of a load or store also writes the LSQ entry at the LSQ's tail with every field the rule gives, and increments
the slot's generation; for any other instruction the LSQ is unchanged (40_dispatch_rename.md section 2). -/
def Obligations.DispatchCreatesLsqEntry : Prop :=
  ∀ (s t : State) (c : BitVec 8) (p : DispatchWords), Dispatchable s c p → exec (.dispatch c p) s = .next t →
    let x := s.ctx c.toNat
    let y := t.ctx c.toNat
    let kl := classify s.cfg p.opcode
    (isMem kl = true →
        y.entry .lsq x.lsqRing.tail =
            { seq := s.eng.nextSeq, opcode := p.opcode, pc := p.pc, nextPc := p.nextPc, predPc := p.predPc
              physreg := none, oldPhysreg := none, archreg := 0, destFormat := .none, eaComp := false
              isLoad := kl.isLoad, isStore := kl.isStore, stackRecoverIdx := p.stackRecoverIdx, shadowValue := 0
              memAddr := p.memAddr, memSize := BitVec.ofNat 4 p.memSize.toNat
              shadowMem := if kl.isStore then p.shadowMem else 0
              dispatched := true, queued := false, issued := false, completed := false, inIq := false }
          ∧ (∀ j, j ≠ x.lsqRing.tail → y.entry .lsq j = x.entry .lsq j ∧ y.gen .lsq j = x.gen .lsq j)
          ∧ y.gen .lsq x.lsqRing.tail = x.gen .lsq x.lsqRing.tail + 1
          ∧ y.lsqRing = ⟨x.lsqRing.head, (x.lsqRing.tail + 1) % x.lsqRing.cap, x.lsqRing.num + 1, x.lsqRing.cap⟩)
      ∧ (isMem kl = false → y.lsq = x.lsq ∧ y.lsqGen = x.lsqGen ∧ y.lsqRing = x.lsqRing)

/-- What a DISPATCH that finds every resource leaves alone: the context's working registers, fetch queue, fetch PC and
attachment, every other context and core, the slots and wakeup queues of its core, memory, trace, latch and port. The counters
of the environment go up by 1 (40_dispatch_rename.md section 2, 70_reset_and_hazards.md R400, notes/assumptions/11.md). -/
def Obligations.DispatchFrame : Prop :=
  ∀ (s t : State) (c : BitVec 8) (p : DispatchWords), Dispatchable s c p → exec (.dispatch c p) s = .next t →
    let x := s.ctx c.toNat
    let y := t.ctx c.toNat
    y.attached = x.attached ∧ y.core = x.core ∧ y.slot = x.slot ∧ y.wreg = x.wreg ∧ y.ifq = x.ifq ∧ y.ifqRing = x.ifqRing
      ∧ y.fetchPc = x.fetchPc ∧ y.fetchStallUntil = x.fetchStallUntil
      ∧ SameCtxsBut c.toNat s t ∧ SameCoresBut x.core s t
      ∧ (∀ n, (t.core x.core).slotOf n = (s.core x.core).slotOf n)
      ∧ (∀ q, (t.core x.core).wq q = (s.core x.core).wq q)
      ∧ t.cfg = s.cfg ∧ t.latch = s.latch ∧ t.trace = s.trace ∧ t.port = s.port ∧ t.now = s.now
      ∧ (∀ a, t.env.mem.read a = s.env.mem.read a) ∧ t.env.draws = s.env.draws ∧ t.env.drawn = s.env.drawn
      ∧ t.env.insnGlobal = s.env.insnGlobal + 1
      ∧ ∀ j, Table.get 0 t.env.insn j = Table.get 0 s.env.insn j + (if j = c.toNat then 1 else 0)

/-- The checks of DISPATCH in their order, each answered with nothing changed: an `archreg` that does not fit the destination
type, a width that is not 1, 2, 4 or 8, a full ROB, a full LSQ, a full issue queue, no FREE register
(40_dispatch_rename.md section 2). -/
def Obligations.DispatchRefusedChangesNothing : Prop :=
  ∀ (s : State) (c : BitVec 8) (p : DispatchWords), s.latch.set = false → c.toNat < s.cfg.numContexts →
    (s.ctx c.toNat).attached = true →
    let x := s.ctx c.toNat
    let kl := classify s.cfg p.opcode
    let badReg := kl.dest = .int ∧ 32 ≤ p.archreg.toNat ∨ kl.dest = .fp ∧ ¬(32 ≤ p.archreg.toNat ∧ p.archreg.toNat < 64)
    let badSize := isMem kl = true ∧ ¬(p.memSize = 1 ∨ p.memSize = 2 ∨ p.memSize = 4 ∨ p.memSize = 8)
    let lsqFull := isMem kl = true ∧ x.lsqRing.num = x.lsqRing.cap
    let noReg := kl.dest ≠ .none ∧ ∀ q < s.cfg.prfBankSize, (s.reg x.core (bankOf p.archreg.toNat) q).state ≠ .free
    let answers := fun r => exec (.dispatch c p) s = .next (s.answer r)
    (badReg → answers (.illegal .badArchreg))
      ∧ (¬badReg → badSize → answers (.illegal .badSize))
      ∧ (¬badReg → ¬badSize → x.robRing.num = x.robRing.cap → answers (.stall .robFull))
      ∧ (¬badReg → ¬badSize → x.robRing.num ≠ x.robRing.cap → lsqFull → answers (.stall .lsqFull))
      ∧ (¬badReg → ¬badSize → x.robRing.num ≠ x.robRing.cap → ¬lsqFull →
          (s.core x.core).iqCount = iqCapOf s.cfg x.core → answers (.stall .iqFull))
      ∧ (¬badReg → ¬badSize → x.robRing.num ≠ x.robRing.cap → ¬lsqFull →
          (s.core x.core).iqCount ≠ iqCapOf s.cfg x.core → noReg → answers (.stall .prfEmpty))

/-- FIND_FREE_PHYSREG answers the lowest FREE register of the bank, NONE where the bank has none, and changes nothing
(40_dispatch_rename.md section 1). The word of an index of `2^64` or more is the model's choice (notes/assumptions/20.md). -/
def Obligations.FindFreeAnswersLowest : Prop :=
  ∀ (s : State) (k : BitVec 8) (q : BitVec 2) (b : Bank), s.latch.set = false → k.toNat < s.cfg.numCores →
    (q = 0 ∧ b = .int ∨ q = 1 ∧ b = .fp) →
      (∀ p < s.cfg.prfBankSize, (s.reg k.toNat b p).state = .free → (∀ r < p, (s.reg k.toNat b r).state ≠ .free) →
          exec (.findFreePhysreg k q) s = .next (s.answer (.ok [natWord p])) ∧ s.findFree k.toNat b = some p)
        ∧ ((∀ p < s.cfg.prfBankSize, (s.reg k.toNat b p).state ≠ .free) →
          exec (.findFreePhysreg k q) s = .next (s.answer .empty) ∧ s.findFree k.toNat b = none)

/-- PRF_SET_READY writes the two timestamps of an ALLOC register and changes nothing else; on a register that is not ALLOC it
raises PRF_STATE (40_dispatch_rename.md section 3). -/
def Obligations.PrfSetReadyWritesTimestamps : Prop :=
  ∀ (s : State) (k : BitVec 8) (q : BitVec 2) (b : Bank) (p ready spec : Word), s.latch.set = false →
    k.toNat < s.cfg.numCores → (q = 0 ∧ b = .int ∨ q = 1 ∧ b = .fp) → p.toNat < s.cfg.prfBankSize →
      ((s.reg k.toNat b p.toNat).state = .alloc →
        ∃ t, exec (.prfSetReady k q p ready spec) s = .next t ∧ t.response = some (.ok [])
          ∧ (∀ k' b' p', t.reg k' b' p' = if k' = k.toNat ∧ b' = b ∧ p' = p.toNat then
              ⟨.alloc, ready, spec, (s.reg k.toNat b p.toNat).allocCycle⟩ else s.reg k' b' p')
          ∧ (∀ k' n, (t.core k').slotOf n = (s.core k').slotOf n) ∧ (∀ k' q', (t.core k').wq q' = (s.core k').wq q')
          ∧ (∀ k', (t.core k').iqCount = (s.core k').iqCount)
          ∧ SameCtxs s t ∧ t.eng.nextSeq = s.eng.nextSeq ∧ SameAround s t)
      ∧ ((s.reg k.toNat b p.toNat).state ≠ .alloc →
        ∃ t, exec (.prfSetReady k q p ready spec) s = .next t ∧ Latched s t .prfState (.prfSetReady k q p ready spec))

/-- PRF_READ: its encoding, its two ILLEGAL answers, and the record it reads out, with nothing changed
(40_dispatch_rename.md R158). -/
def Obligations.PrfReadAnswersRecord : Prop :=
  ∀ (s : State) (k : BitVec 8) (q : BitVec 2) (p : Word),
    (Instr.prfRead k q p).row = ⟨0x0D, 0x00FFFF3F, 1⟩
      ∧ (s.latch.set = false → k.toNat < s.cfg.numCores →
          (2 ≤ q.toNat → exec (.prfRead k q p) s = .next (s.answer (.illegal .badBank)))
          ∧ (q.toNat < 2 → s.cfg.prfBankSize ≤ p.toNat → exec (.prfRead k q p) s = .next (s.answer (.illegal .badIndex)))
          ∧ (q.toNat < 2 → p.toNat < s.cfg.prfBankSize →
              let r := s.reg k.toNat (if q = 0 then .int else .fp) p.toNat
              let code : Word := match r.state with
                | .free => 0
                | .alloc => 1
                | .architected => 2
              exec (.prfRead k q p) s = .next (s.answer (.ok [code, r.readyCycle, r.specReadyCycle, r.allocCycle]))))

/-- RENAME_READ: its encoding, its defect, its ILLEGAL answer, and the rename entry it reads out, with nothing changed
(40_dispatch_rename.md R159). The word of an index of `2^64` or more is the model's choice (notes/assumptions/20.md). -/
def Obligations.RenameReadAnswersMapping : Prop :=
  ∀ (s : State) (c : BitVec 8) (a : Word),
    (Instr.renameRead c a).row = ⟨0x0E, 0xFF00FFFF, 1⟩
      ∧ (s.latch.set = false → c.toNat < s.cfg.numContexts →
          ((s.ctx c.toNat).attached = false →
            ∃ t, exec (.renameRead c a) s = .next t ∧ Latched s t .notAttached (.renameRead c a))
          ∧ ((s.ctx c.toNat).attached = true → 64 ≤ a.toNat →
            exec (.renameRead c a) s = .next (s.answer (.illegal .badArchreg)))
          ∧ ((s.ctx c.toNat).attached = true → a.toNat < 64 →
            exec (.renameRead c a) s = .next (s.answer (.ok [natWord ((s.ctx c.toNat).renameOf a.toNat)]))))

/-! ### Status transitions and wakeup queues (41_queue_model.md) -/

/-- MARK_QUEUED of a Dispatched entry sets `queued`, COMPLETE of an Issued entry sets `completed`; both answer OK and change
nothing else (41_queue_model.md section 1). -/
def Obligations.MarkQueuedAndCompleteSetTheirBit : Prop :=
  ∀ (s : State) (c : BitVec 8) (b : Buf) (slot gen : Word), s.latch.set = false → c.toNat < s.cfg.numContexts →
    s.live c.toNat b slot.toNat gen.toNat = true →
    let e := (s.ctx c.toNat).entry b slot.toNat
    let becomes := fun (e' : Entry) (t : State) => t.response = some (.ok [])
      ∧ (∀ j b' i, (t.ctx j).entry b' i = if j = c.toNat ∧ b' = b ∧ i = slot.toNat then e' else (s.ctx j).entry b' i)
      ∧ (∀ j, { t.ctx j with rob := (s.ctx j).rob, lsq := (s.ctx j).lsq } = s.ctx j)
      ∧ SameCores s t ∧ t.eng.nextSeq = s.eng.nextSeq ∧ SameAround s t
    (e.dispatched = true → e.queued = false →
        ∃ t, exec (.markQueued c b slot gen) s = .next t ∧ becomes { e with queued := true } t)
      ∧ (e.issued = true → e.completed = false →
        ∃ t, exec (.complete c b slot gen) s = .next t ∧ becomes { e with completed := true } t)

/-- ISSUE of a Queued entry sets `issued`; an entry that holds an issue-queue slot gives it up, so that the context's `icount`
and its core's `iq_count` go down by 1 (41_queue_model.md section 1). -/
def Obligations.IssueReleasesIssueQueueSlot : Prop :=
  ∀ (s : State) (c : BitVec 8) (b : Buf) (slot gen : Word), s.latch.set = false → c.toNat < s.cfg.numContexts →
    s.live c.toNat b slot.toNat gen.toNat = true →
    let x := s.ctx c.toNat
    let e := x.entry b slot.toNat
    let one := if e.inIq then 1 else 0
    e.queued = true → e.issued = false →
      ∃ t, exec (.issue c b slot gen) s = .next t ∧ t.response = some (.ok [])
        ∧ (∀ j b' i, (t.ctx j).entry b' i = if j = c.toNat ∧ b' = b ∧ i = slot.toNat then
            { e with issued := true, inIq := false } else (s.ctx j).entry b' i)
        ∧ (∀ j, { t.ctx j with rob := (s.ctx j).rob, lsq := (s.ctx j).lsq, icount := (s.ctx j).icount } = s.ctx j)
        ∧ (∀ j, (t.ctx j).icount = (s.ctx j).icount - (if j = c.toNat then one else 0))
        ∧ (∀ k, { t.core k with iqCount := (s.core k).iqCount } = s.core k)
        ∧ (∀ k, (t.core k).iqCount = (s.core k).iqCount - (if k = x.core then one else 0))
        ∧ t.eng.nextSeq = s.eng.nextSeq ∧ SameAround s t

/-- A status command that would skip or repeat a state of a live entry raises BAD_TRANSITION (41_queue_model.md section 1,
10_state.md R41). -/
def Obligations.BadTransitionIsFatal : Prop :=
  ∀ (s : State) (c : BitVec 8) (b : Buf) (slot gen : Word), s.latch.set = false → c.toNat < s.cfg.numContexts →
    s.live c.toNat b slot.toNat gen.toNat = true →
    let e := (s.ctx c.toNat).entry b slot.toNat
    (¬(e.dispatched = true ∧ e.queued = false) →
        ∃ t, exec (.markQueued c b slot gen) s = .next t ∧ Latched s t .badTransition (.markQueued c b slot gen))
      ∧ (¬(e.queued = true ∧ e.issued = false) →
        ∃ t, exec (.issue c b slot gen) s = .next t ∧ Latched s t .badTransition (.issue c b slot gen))
      ∧ (¬(e.issued = true ∧ e.completed = false) →
        ∃ t, exec (.complete c b slot gen) s = .next t ∧ Latched s t .badTransition (.complete c b slot gen))

/-- WQ_INSERT of a live handle of the core adds the membership to the named queue, keyed by the entry's `seq` in the ready
queue and by the word given in the others, and changes nothing else; an entry already in that queue raises WQ_DUPLICATE
(41_queue_model.md section 2). -/
def Obligations.WqInsertAddsMembership : Prop :=
  ∀ (s : State) (k c : BitVec 8) (q : Queue) (b : Buf) (slot gen key : Word), s.latch.set = false →
    k.toNat < s.cfg.numCores → c.toNat < s.cfg.numContexts → slot.toNat < s.cfg.maxCap →
    s.live c.toNat b slot.toNat gen.toNat = true → (s.ctx c.toNat).core = k.toNat →
    let key' := if q = .ready then ((s.ctx c.toNat).entry b slot.toNat).seq else key
    ((∀ m ∈ (s.core k.toNat).wq q, ¬(m.ctx = c.toNat ∧ m.buf = b ∧ m.idx = slot.toNat)) →
        ∃ t, exec (.wqInsert k c q b slot gen key) s = .next t ∧ t.response = some (.ok [])
          ∧ (∀ k' q', (t.core k').wq q' = if k' = k.toNat ∧ q' = q then
              (s.core k').wq q ++ [⟨c.toNat, b, slot.toNat, gen.toNat, key'⟩] else (s.core k').wq q')
          ∧ SameRegs s t ∧ (∀ k' n, (t.core k').slotOf n = (s.core k').slotOf n)
          ∧ (∀ k', (t.core k').iqCount = (s.core k').iqCount)
          ∧ SameCtxs s t ∧ t.eng.nextSeq = s.eng.nextSeq ∧ SameAround s t)
      ∧ ((∃ m ∈ (s.core k.toNat).wq q, m.ctx = c.toNat ∧ m.buf = b ∧ m.idx = slot.toNat) →
        ∃ t, exec (.wqInsert k c q b slot gen key) s = .next t
          ∧ Latched s t .wqDuplicate (.wqInsert k c q b slot gen key))

/-- WQ_POP answers NONE and changes nothing where no membership is due (in the ready queue: where it is empty). Else it takes a
membership with the smallest due key off the queue, which names a live entry where the invariants hold, and changes nothing
else but the draws; and each membership with the smallest due key is taken for some draw (41_queue_model.md section 2,
92_eei_decisions.md D38, notes/assumptions/6.md; a generation too large for its word, notes/assumptions/20.md). -/
def Obligations.WqPopTakesLeastDueKey : Prop :=
  ∀ (s : State) (k : BitVec 8) (q : Queue), s.latch.set = false → k.toNat < s.cfg.numCores →
    let l := (s.core k.toNat).wq q
    let due := fun (m : Membership) => q = .ready ∨ m.key ≤ s.now
    let least := fun (m : Membership) => m ∈ l ∧ due m ∧ ∀ m' ∈ l, due m' → m.key ≤ m'.key
    let words := fun (m : Membership) =>
      [natWord m.ctx, (match m.buf with | .rob => 0 | .lsq => 1), natWord m.idx, natWord m.gen, m.key]
    ((∀ m ∈ l, ¬ due m) → exec (.wqPop k q) s = .next (s.answer .empty))
      ∧ ((∃ m ∈ l, due m) →
        ∃ m t, least m ∧ exec (.wqPop k q) s = .next t ∧ t.response = some (.ok (words m))
          ∧ (∀ k' q', (t.core k').wq q' = if k' = k.toNat ∧ q' = q then l.filter (fun m' => decide (m' ≠ m))
              else (s.core k').wq q')
          ∧ SameRegs s t ∧ (∀ k' n, (t.core k').slotOf n = (s.core k').slotOf n)
          ∧ (∀ k', (t.core k').iqCount = (s.core k').iqCount) ∧ SameCtxs s t ∧ t.eng.nextSeq = s.eng.nextSeq
          ∧ t.cfg = s.cfg ∧ t.latch = s.latch ∧ t.trace = s.trace ∧ t.port = s.port ∧ t.now = s.now
          ∧ t.env = { s.env with draws := s.env.draws.tail, drawn := s.env.drawn + 1 }
          ∧ (EngineOk s → s.live m.ctx m.buf m.idx m.gen = true))
      ∧ ∀ m, least m → ∃ d t, exec (.wqPop k q) { s with env := { s.env with draws := d :: s.env.draws } } = .next t
          ∧ t.response = some (.ok (words m))

/-- WQ_REMOVE of a live handle of the core takes its membership off the named queue and answers 1; where the queue holds none of
that handle it changes nothing and answers 0 (41_queue_model.md section 2). -/
def Obligations.WqRemoveTakesMembership : Prop :=
  ∀ (s : State) (k c : BitVec 8) (q : Queue) (b : Buf) (slot gen : Word), s.latch.set = false →
    k.toNat < s.cfg.numCores → c.toNat < s.cfg.numContexts → slot.toNat < s.cfg.maxCap →
    s.live c.toNat b slot.toNat gen.toNat = true → (s.ctx c.toNat).core = k.toNat →
    let l := (s.core k.toNat).wq q
    let mine := fun (m : Membership) => m.ctx = c.toNat ∧ m.buf = b ∧ m.idx = slot.toNat ∧ m.gen = gen.toNat
    ((∀ m ∈ l, ¬ mine m) → exec (.wqRemove k c q b slot gen) s = .next (s.answer (.ok [0])))
      ∧ ((∃ m ∈ l, mine m) →
        ∃ m t, m ∈ l ∧ mine m ∧ exec (.wqRemove k c q b slot gen) s = .next t ∧ t.response = some (.ok [1])
          ∧ (∀ k' q', (t.core k').wq q' = if k' = k.toNat ∧ q' = q then l.filter (fun m' => decide (m' ≠ m))
              else (s.core k').wq q')
          ∧ SameRegs s t ∧ (∀ k' n, (t.core k').slotOf n = (s.core k').slotOf n)
          ∧ (∀ k', (t.core k').iqCount = (s.core k').iqCount)
          ∧ SameCtxs s t ∧ t.eng.nextSeq = s.eng.nextSeq ∧ SameAround s t)

/-! ### Commit (42_commit.md) -/

/-- COMMIT of a completed head whose partner is completed: the entry leaves the ROB's head and its partner the LSQ's, their
memberships go, the entry's register becomes ARCHITECTED and the mapping it displaced FREE, with their timestamps; rename table,
working registers, generations, counts, memory and trace are unchanged (42_commit.md, 90_conflicts.md C2; an index too large for
its data word, notes/assumptions/20.md). -/
def Obligations.CommitRetiresTheHead : Prop :=
  ∀ (s : State) (c : BitVec 8), s.latch.set = false → c.toNat < s.cfg.numContexts → (s.ctx c.toNat).attached = true →
    let x := s.ctx c.toNat
    let e := x.entry .rob x.robRing.head
    let l := x.entry .lsq x.lsqRing.head
    let bank := bankOf e.archreg.toNat
    x.robRing.num ≠ 0 → e.completed = true →
    (e.eaComp = true → x.lsqRing.num ≠ 0 ∧ l.seq = e.seq ∧ l.completed = true) →
    (∀ p, e.physreg = some p → (s.reg x.core bank p).state = .alloc
      ∧ ∃ old, e.oldPhysreg = some old ∧ (s.reg x.core bank old).state = .architected) →
      ∃ t, exec (.commit c) s = .next t
        ∧ t.response = some (.ok [e.seq, e.pc, natWord x.robRing.head, if e.eaComp then 1 else 0, optWord e.physreg,
            if e.physreg = none then minusOne else optWord e.oldPhysreg])
        ∧ (t.ctx c.toNat).robRing
            = ⟨(x.robRing.head + 1) % x.robRing.cap, x.robRing.tail, x.robRing.num - 1, x.robRing.cap⟩
        ∧ (t.ctx c.toNat).lsqRing = (if e.eaComp then
            ⟨(x.lsqRing.head + 1) % x.lsqRing.cap, x.lsqRing.tail, x.lsqRing.num - 1, x.lsqRing.cap⟩ else x.lsqRing)
        ∧ { t.ctx c.toNat with robRing := x.robRing, lsqRing := x.lsqRing } = x
        ∧ (∀ k b p, t.reg k b p
            = if k = x.core ∧ b = bank ∧ e.physreg = some p then { s.reg k b p with state := .architected }
              else if k = x.core ∧ b = bank ∧ e.physreg ≠ none ∧ e.oldPhysreg = some p then
                { s.reg k b p with state := .free }
              else s.reg k b p)
        ∧ (∀ k q, (t.core k).wq q = if k = x.core then ((s.core k).wq q).filter (fun m =>
            !(decide (m.ctx = c.toNat) && (decide (m.buf = .rob ∧ m.idx = x.robRing.head)
              || decide (e.eaComp = true ∧ m.buf = .lsq ∧ m.idx = x.lsqRing.head)))) else (s.core k).wq q)
        ∧ (∀ k, (t.core k).iqCount = (s.core k).iqCount) ∧ (∀ k n, (t.core k).slotOf n = (s.core k).slotOf n)
        ∧ SameCtxsBut c.toNat s t ∧ t.eng.nextSeq = s.eng.nextSeq ∧ SameAround s t

/-- COMMIT where it does not retire: NONE on an empty ROB, STALL NOT_READY while the head or its partner is not completed, both
with nothing changed; LSQ_DESYNC where the partner is not at the LSQ's head; COMMIT_REG_STATE where the registers are not ALLOC
and ARCHITECTED. Where the invariants hold it raises no defect for an attached context (42_commit.md). -/
def Obligations.CommitOtherwise : Prop :=
  ∀ (s : State) (c : BitVec 8), s.latch.set = false → c.toNat < s.cfg.numContexts → (s.ctx c.toNat).attached = true →
    let x := s.ctx c.toNat
    let e := x.entry .rob x.robRing.head
    let l := x.entry .lsq x.lsqRing.head
    let bank := bankOf e.archreg.toNat
    let matched := e.eaComp = true → x.lsqRing.num ≠ 0 ∧ l.seq = e.seq
    (x.robRing.num = 0 → exec (.commit c) s = .next (s.answer .empty))
      ∧ (x.robRing.num ≠ 0 → e.completed = false → exec (.commit c) s = .next (s.answer (.stall .notReady)))
      ∧ (x.robRing.num ≠ 0 → e.completed = true → ¬ matched →
          ∃ t, exec (.commit c) s = .next t ∧ Latched s t .lsqDesync (.commit c))
      ∧ (x.robRing.num ≠ 0 → e.completed = true → matched → e.eaComp = true → l.completed = false →
          exec (.commit c) s = .next (s.answer (.stall .notReady)))
      ∧ (x.robRing.num ≠ 0 → e.completed = true → matched → (e.eaComp = true → l.completed = true) →
          (∃ p, e.physreg = some p ∧ ((s.reg x.core bank p).state ≠ .alloc
            ∨ ∃ old, e.oldPhysreg = some old ∧ (s.reg x.core bank old).state ≠ .architected)) →
          ∃ t, exec (.commit c) s = .next t ∧ Latched s t .commitRegState (.commit c))
      ∧ (EngineOk s → ∀ t, exec (.commit c) s = .next t → t.latch.set = false)

/-! ### Rollback and flush (43_rollback.md) -/

/-- ROLLBACK_TO a live target, where the invariants hold and the memory accepts the replays, squashes exactly the `n` entries
younger than the target: the target is the youngest entry left, its elders are untouched; registers, rename table, working
registers, memberships, issue-queue slots and memory are undone; the fetch queue is drained and fetch redirected to the target's
`next_pc`; the events follow in order (43_rollback.md, 20_memory.md section 4). That the memory accepts is said of the answers
already decided, and each replay uses one (notes/assumptions/5.md); the counters are the reference environment's
(notes/assumptions/11.md). -/
def Obligations.RollbackSquashesTheYounger : Prop :=
  ∀ (s : State) (c : BitVec 8) (m : Bool) (slot gen : Word), EngineOk s → s.latch.set = false →
    c.toNat < s.cfg.numContexts → s.live c.toNat .rob slot.toNat gen.toNat = true →
    let x := s.ctx c.toNat
    let e := x.entry .rob slot.toNat
    let n := x.robRing.num - 1 - x.robRing.pos slot.toNat
    Accepts s (undoneStores x n).length →
      ∃ t, exec (.rollbackTo c m slot gen) s = .next t
        ∧ t.response = some (.ok [natWord n, e.nextPc])
        ∧ (t.ctx c.toNat).robRing = ⟨x.robRing.head, (slot.toNat + 1) % x.robRing.cap, x.robRing.num - n, x.robRing.cap⟩
        ∧ 1 ≤ (t.ctx c.toNat).robRing.num
        ∧ liveEntries (t.ctx c.toNat) .rob = (liveEntries x .rob).take (x.robRing.num - n)
        ∧ (t.ctx c.toNat).lsqRing.num = x.lsqRing.num - squashedMems x n
        ∧ liveEntries (t.ctx c.toNat) .lsq = (liveEntries x .lsq).take (x.lsqRing.num - squashedMems x n)
        ∧ RegsUndone s t c.toNat n ∧ WregsUndone s t c.toNat n ∧ QueuesUndone s t c.toNat n ∧ MemoryUndone s t c.toNat n
        ∧ (t.ctx c.toNat).icount = x.icount - squashedInIq x n
        ∧ (t.ctx c.toNat).ifqRing = ⟨x.ifqRing.tail, x.ifqRing.tail, 0, x.ifqRing.cap⟩
        ∧ (t.ctx c.toNat).fetchPc = e.nextPc
        ∧ (t.ctx c.toNat).fetchStallUntil = (if m = true ∨ s.cfg.penaltyOnAllRollbacks = true then
            BitVec.ofNat 64 (min (s.now.toNat + s.cfg.mispredPenalty.toNat) (2 ^ 64 - 1)) else x.fetchStallUntil)
        ∧ t.trace = s.trace ++ (undoneStores x n).map replayEvent
            ++ (if m then [.rasRecover (template s.cfg x.core x.slot).predHandle e.stackRecoverIdx] else [])
            ++ [.insnCountDec c.toNat n]
        ∧ (t.ctx c.toNat).attached = true ∧ (t.ctx c.toNat).core = x.core ∧ (t.ctx c.toNat).slot = x.slot
        ∧ (∀ b j, (t.ctx c.toNat).gen b j = x.gen b j)
        ∧ SameCtxsBut c.toNat s t ∧ SameCoresBut x.core s t
        ∧ (∀ j, (t.core x.core).slotOf j = (s.core x.core).slotOf j)
        ∧ t.eng.nextSeq = s.eng.nextSeq ∧ t.cfg = s.cfg ∧ t.latch = s.latch ∧ t.port = s.port ∧ t.now = s.now

/-- FLUSH_CONTEXT, where the invariants hold and the memory accepts the replays, squashes every entry: the buffers and counts of
the context are empty with indices 0; registers, rename table, working registers, memberships, issue-queue slots and memory are
undone; fetch is redirected to the oldest instruction not committed; no return-stack event, no penalty (43_rollback.md).
The memory's answers are those already decided (notes/assumptions/5.md), the counters the reference environment's
(notes/assumptions/11.md). -/
def Obligations.FlushSquashesEverything : Prop :=
  ∀ (s : State) (c : BitVec 8), EngineOk s → s.latch.set = false → c.toNat < s.cfg.numContexts →
    (s.ctx c.toNat).attached = true →
    let x := s.ctx c.toNat
    let n := x.robRing.num
    let pc := if n ≠ 0 then (x.entry .rob x.robRing.head).pc
      else if x.ifqRing.num ≠ 0 then (Table.get FetchRecord.blank x.ifq x.ifqRing.head).pc else x.fetchPc
    Accepts s (undoneStores x n).length →
      ∃ t, exec (.flushContext c) s = .next t
        ∧ t.response = some (.ok [natWord n, pc])
        ∧ (t.ctx c.toNat).robRing = ⟨0, 0, 0, x.robRing.cap⟩ ∧ (t.ctx c.toNat).lsqRing = ⟨0, 0, 0, x.lsqRing.cap⟩
        ∧ (t.ctx c.toNat).ifqRing = ⟨0, 0, 0, x.ifqRing.cap⟩ ∧ (t.ctx c.toNat).icount = 0
        ∧ (t.ctx c.toNat).fetchPc = pc ∧ (t.ctx c.toNat).fetchStallUntil = x.fetchStallUntil
        ∧ RegsUndone s t c.toNat n ∧ WregsUndone s t c.toNat n ∧ QueuesUndone s t c.toNat n ∧ MemoryUndone s t c.toNat n
        ∧ t.trace = s.trace ++ (undoneStores x n).map replayEvent ++ [.insnCountDec c.toNat n]
        ∧ (t.ctx c.toNat).attached = true ∧ (t.ctx c.toNat).core = x.core ∧ (t.ctx c.toNat).slot = x.slot
        ∧ (∀ b j, (t.ctx c.toNat).gen b j = x.gen b j)
        ∧ SameCtxsBut c.toNat s t ∧ SameCoresBut x.core s t
        ∧ (∀ j, (t.core x.core).slotOf j = (s.core x.core).slotOf j)
        ∧ t.eng.nextSeq = s.eng.nextSeq ∧ t.cfg = s.cfg ∧ t.latch = s.latch ∧ t.port = s.port ∧ t.now = s.now

/-- Conservation and rename restoration. From `s` the driver dispatches instructions of a context and sends any other commands
that leave the FREE set of its core alone; then it squashes what it dispatched, by ROLLBACK_TO to the entry that was youngest in
`s` and is still live, or by FLUSH_CONTEXT where `s` holds no live entry with a register (an empty ROB among them). The FREE set
and the rename table are those of `s`, and each working register written holds the shadow value given to its oldest writer. After
a run of nothing but DISPATCHes, ownership, live entries, issue-queue counts and counters are those of `s` too (43_rollback.md,
60_exceptions.md section 2; the counters are the reference environment's, notes/assumptions/11.md, the memory's answers those
already decided, notes/assumptions/5.md). -/
def Obligations.RollbackUndoesDispatches : Prop :=
  ∀ (s s1 : State) (c : BitVec 8) (l : List Sent), EngineOk s → s.latch.set = false → c.toNat < s.cfg.numContexts →
    (s.ctx c.toNat).attached = true → Sends c l s s1 →
    let x := s.ctx c.toNat
    let y := s1.ctx c.toNat
    (∀ (m : Bool) (slot gen w : Word), s.live c.toNat .rob slot.toNat gen.toNat = true →
        x.robRing.pos slot.toNat + 1 = x.robRing.num →
        ((∃ fs : List Fed, l = fs.map Sent.fed) ∨ s1.live c.toNat .rob slot.toNat gen.toNat = true) →
        Accepts s1 (undoneStores y (y.robRing.num - 1 - y.robRing.pos slot.toNat)).length →
          ∃ t, exec (.rollbackTo c m slot gen) { s1 with now := w } = .next t ∧ AnswersOk t ∧ Conserved s s1 t c.toNat l
            ∧ ∀ fs : List Fed, l = fs.map Sent.fed → RunUndone s t c.toNat fs
                ∧ (t.ctx c.toNat).robRing = x.robRing ∧ (t.ctx c.toNat).lsqRing = x.lsqRing)
      ∧ ((∀ e ∈ liveEntries x .rob, e.physreg = none) → ∀ w : Word, Accepts s1 (undoneStores y y.robRing.num).length →
          ∃ t, exec (.flushContext c) { s1 with now := w } = .next t ∧ AnswersOk t ∧ Conserved s s1 t c.toNat l
            ∧ (x.robRing.num = 0 → ∀ fs : List Fed, l = fs.map Sent.fed → RunUndone s t c.toNat fs))

/-- Store rollback fidelity: if each store of a run of executed and dispatched instructions gave the bytes memory held just
before it as its shadow, then a ROLLBACK_TO to the entry that was youngest before the run, or a FLUSH_CONTEXT where the ROB was
empty before it, leaves every byte of memory that was known before the run, and every byte no store of it covers, as it was
(20_memory.md section 4, 43_rollback.md; a byte not known beforehand has no value to return to, notes/assumptions/10.md; the
memory's answers are those already decided, notes/assumptions/5.md). -/
def Obligations.RollbackRestoresMemory : Prop :=
  ∀ (s s1 : State) (c : BitVec 8) (l : List Fed) (w : Word), EngineOk s → s.latch.set = false →
    c.toNat < s.cfg.numContexts → (s.ctx c.toNat).attached = true → dispatchAll c l s = some s1 →
    Accepts s1 (undoneStores (s1.ctx c.toNat) l.length).length → captured s.cfg s.env.mem l →
    let x := s.ctx c.toNat
    let restores := fun i => ∃ t, exec i { s1 with now := w } = .next t ∧ AnswersOk t
      ∧ ∀ a, s.env.mem.read a ≠ none ∨ ¬ storesTo s.cfg l a → t.env.mem.read a = s.env.mem.read a
    (∀ (m : Bool) (slot gen : Word), s.live c.toNat .rob slot.toNat gen.toNat = true →
        x.robRing.pos slot.toNat + 1 = x.robRing.num → restores (.rollbackTo c m slot gen))
      ∧ (x.robRing.num = 0 → restores (.flushContext c))

/-- A replay that the memory faults ends a squash: ROLLBACK_TO, FLUSH_CONTEXT or TRANSFER_CONTEXT raises MEM_REPLAY_FAULT, the
trace holds the replays accepted before it and then the faulting `MemWrite`, and nothing after it: no return-stack event, no
counting (20_memory.md section 1, 43_rollback.md, 60_exceptions.md section 1). What the rest says is the model's choice: memory and
counters stand as the defect point left them (notes/assumptions/8.md), the faulting replay lands on its own bytes only
(notes/assumptions/10.md), and the answers are those already decided (notes/assumptions/5.md). -/
def Obligations.ReplayFaultIsFatal : Prop :=
  ∀ (s : State) (c : BitVec 8) (j : Nat) (l : Entry), EngineOk s → s.latch.set = false → c.toNat < s.cfg.numContexts →
    (s.ctx c.toNat).attached = true → Accepts s j → (s.env.draws[j]?).any drawFaults = true →
    let x := s.ctx c.toNat
    let faults := fun (i : Instr) (n : Nat) => (undoneStores x n)[j]? = some l →
      ∃ t, exec i s = .next t ∧ LatchedLate s t .memReplayFault i
        ∧ t.trace = s.trace ++ ((undoneStores x n).take j).map replayEvent
            ++ [.memWrite l.memAddr l.memSize (bytesOf l.shadowMem l.memSize.toNat) true]
        ∧ (∀ a, ¬ covers l.memAddr l.memSize.toNat a →
            t.env.mem.read a = (replayed s.env.mem ((undoneStores x n).take j)).read a)
        ∧ t.env.insnGlobal = s.env.insnGlobal ∧ t.env.insn = s.env.insn
    (∀ (m : Bool) (slot gen : Word), s.live c.toNat .rob slot.toNat gen.toNat = true →
        faults (.rollbackTo c m slot gen) (x.robRing.num - 1 - x.robRing.pos slot.toNat))
      ∧ faults (.flushContext c) x.robRing.num
      ∧ ∀ k : BitVec 8, k.toNat < s.cfg.numCores → faults (.transferContext c k) x.robRing.num

/-! ### Contexts (44_context.md) -/

/-- ADD_CONTEXT of a detached context to a core with an empty slot and 32 FREE registers in each bank attaches it to the lowest
empty slot, empty and with the slot's capacities, and leases the 32 lowest FREE registers of each bank in ascending order;
generations, working registers, fetch PC and stall are kept, and nothing else changes (44_context.md). -/
def Obligations.AddContextLeasesLowest : Prop :=
  ∀ (s : State) (c k : BitVec 8) (n : Nat), s.latch.set = false → c.toNat < s.cfg.numContexts →
    k.toNat < s.cfg.numCores → (s.ctx c.toNat).attached = false → n < s.cfg.maxContexts →
    (s.core k.toNat).slotOf n = none → (∀ j < n, (s.core k.toNat).slotOf j ≠ none) →
    32 ≤ (freeList s k.toNat .int).length → 32 ≤ (freeList s k.toNat .fp).length →
      ∃ t, exec (.addContext c k) s = .next t ∧ t.response = some (.ok [natWord n])
        ∧ Admitted s t c.toNat k.toNat n (freeList s k.toNat) (s.reg k.toNat)
        ∧ (∀ b j, (t.ctx c.toNat).gen b j = (s.ctx c.toNat).gen b j)
        ∧ (t.ctx c.toNat).wreg = (s.ctx c.toNat).wreg ∧ (t.ctx c.toNat).fetchPc = (s.ctx c.toNat).fetchPc
        ∧ (t.ctx c.toNat).fetchStallUntil = (s.ctx c.toNat).fetchStallUntil
        ∧ (∀ j, j ≠ n → (t.core k.toNat).slotOf j = (s.core k.toNat).slotOf j)
        ∧ (∀ q, (t.core k.toNat).wq q = (s.core k.toNat).wq q)
        ∧ (t.core k.toNat).iqCount = (s.core k.toNat).iqCount
        ∧ SameCtxsBut c.toNat s t ∧ SameCoresBut k.toNat s t ∧ t.eng.nextSeq = s.eng.nextSeq ∧ SameAround s t

/-- ADD_CONTEXT to a core with no empty slot is answered REJECT CORE_FULL, and to one with an empty slot but fewer than 32 FREE
registers in a bank REJECT LEASE_SHORT, without data and with nothing changed (44_context.md). -/
def Obligations.AddContextRejected : Prop :=
  ∀ (s : State) (c k : BitVec 8), s.latch.set = false → c.toNat < s.cfg.numContexts → k.toNat < s.cfg.numCores →
    (s.ctx c.toNat).attached = false →
      ((∀ n < s.cfg.maxContexts, (s.core k.toNat).slotOf n ≠ none) →
          exec (.addContext c k) s = .next (s.answer (.reject .coreFull [])))
        ∧ ((∃ n < s.cfg.maxContexts, (s.core k.toNat).slotOf n = none) →
            (freeList s k.toNat .int).length < 32 ∨ (freeList s k.toNat .fp).length < 32 →
          exec (.addContext c k) s = .next (s.answer (.reject .leaseShort [])))

/-- EJECT_CONTEXT of a context with empty ROB and LSQ, no issue-queue slot, and 64 ARCHITECTED rename targets ready at `now`
frees those registers and its slot and detaches it; a fetch queue that was not empty gives `fetch_pc` its oldest PC; nothing
else changes (44_context.md). -/
def Obligations.EjectReturnsRegisters : Prop :=
  ∀ (s : State) (c : BitVec 8), s.latch.set = false → c.toNat < s.cfg.numContexts → (s.ctx c.toNat).attached = true →
    let x := s.ctx c.toNat
    x.robRing.num = 0 → x.icount = 0 → x.lsqRing.num = 0 →
    (∀ a < 64, (s.reg x.core (bankOf a) (x.renameOf a)).state = .architected
      ∧ (s.reg x.core (bankOf a) (x.renameOf a)).readyCycle ≤ s.now
      ∧ (s.reg x.core (bankOf a) (x.renameOf a)).specReadyCycle ≤ s.now) →
      ∃ t, exec (.ejectContext c) s = .next t ∧ t.response = some (.ok [natWord x.core, natWord x.slot])
        ∧ (∀ k b p, t.reg k b p
            = if k = x.core ∧ (List.range 64).any (fun a => decide (bankOf a = b) && decide (x.renameOf a = p)) = true
              then { s.reg k b p with state := .free } else s.reg k b p)
        ∧ (∀ k n, (t.core k).slotOf n = if k = x.core ∧ n = x.slot then none else (s.core k).slotOf n)
        ∧ (∀ k q, (t.core k).wq q = (s.core k).wq q) ∧ (∀ k, (t.core k).iqCount = (s.core k).iqCount)
        ∧ (t.ctx c.toNat).attached = false
        ∧ (t.ctx c.toNat).robRing = ⟨0, 0, 0, x.robRing.cap⟩ ∧ (t.ctx c.toNat).lsqRing = ⟨0, 0, 0, x.lsqRing.cap⟩
        ∧ (t.ctx c.toNat).ifqRing = ⟨0, 0, 0, x.ifqRing.cap⟩ ∧ (t.ctx c.toNat).icount = 0
        ∧ (t.ctx c.toNat).fetchPc
            = (if x.ifqRing.num ≠ 0 then (Table.get FetchRecord.blank x.ifq x.ifqRing.head).pc else x.fetchPc)
        ∧ (t.ctx c.toNat).fetchStallUntil = x.fetchStallUntil ∧ (t.ctx c.toNat).wreg = x.wreg
        ∧ (∀ b j, (t.ctx c.toNat).gen b j = x.gen b j)
        ∧ SameCtxsBut c.toNat s t ∧ t.eng.nextSeq = s.eng.nextSeq ∧ SameAround s t

/-- The checks of EJECT_CONTEXT in their order, each a defect: EJECT_NOT_QUIESCENT, LSQ_DESYNC, and for the first of the 64
rename targets that fails, EJECT_REG_STATE or EJECT_PENDING_TIMESTAMP (44_context.md). -/
def Obligations.EjectDefectsInOrder : Prop :=
  ∀ (s : State) (c : BitVec 8), s.latch.set = false → c.toNat < s.cfg.numContexts → (s.ctx c.toNat).attached = true →
    let x := s.ctx c.toNat
    let r := fun a => s.reg x.core (bankOf a) (x.renameOf a)
    let passes := fun a => (r a).state = .architected ∧ (r a).readyCycle ≤ s.now ∧ (r a).specReadyCycle ≤ s.now
    let raises := fun d => ∃ t, exec (.ejectContext c) s = .next t ∧ Latched s t d (.ejectContext c)
    (x.robRing.num ≠ 0 ∨ x.icount ≠ 0 → raises .ejectNotQuiescent)
      ∧ (x.robRing.num = 0 → x.icount = 0 → x.lsqRing.num ≠ 0 → raises .lsqDesync)
      ∧ (x.robRing.num = 0 → x.icount = 0 → x.lsqRing.num = 0 → ∀ a < 64, (∀ j < a, passes j) →
          ((r a).state ≠ .architected → raises .ejectRegState)
            ∧ ((r a).state = .architected → (s.now < (r a).readyCycle ∨ s.now < (r a).specReadyCycle) →
                raises .ejectPendingTimestamp))

/-- Where the invariants hold, the 64 rename targets of an attached context with an empty ROB are ARCHITECTED and distinct within
each bank, and if they are ready at `now` its ejection is answered OK (42_commit.md R232, 44_context.md R294). -/
def Obligations.QuiescentContextEjects : Prop :=
  ∀ (s : State) (c : BitVec 8), EngineOk s → s.latch.set = false → c.toNat < s.cfg.numContexts →
    (s.ctx c.toNat).attached = true → (s.ctx c.toNat).robRing.num = 0 →
    let x := s.ctx c.toNat
    (∀ a < 64, (s.reg x.core (bankOf a) (x.renameOf a)).state = .architected)
      ∧ (∀ a < 64, ∀ a' < 64, bankOf a = bankOf a' → x.renameOf a = x.renameOf a' → a = a')
      ∧ (TimestampsPast s c.toNat →
          ∃ t, exec (.ejectContext c) s = .next t ∧ t.response = some (.ok [natWord x.core, natWord x.slot])
            ∧ (t.ctx c.toNat).attached = false)

/-- TRANSFER_CONTEXT to a core with room, its own among them, where the invariants hold, the committed registers are ready and the
memory accepts the replays: the context is flushed, its registers on the old core go to FREE and its slot is emptied, and it stands
in the lowest empty slot of the target core with the 32 lowest FREE registers of each bank leased. Its own core always has room.
Working registers and redirected fetch PC go with it, and every other slot and register of the two cores is as before
(44_context.md; the memory's answers are those already decided, notes/assumptions/5.md, the counters the reference
environment's, notes/assumptions/11.md). -/
def Obligations.TransferMovesContext : Prop :=
  ∀ (s : State) (c k : BitVec 8) (j : Nat), EngineOk s → s.latch.set = false → c.toNat < s.cfg.numContexts →
    k.toNat < s.cfg.numCores → (s.ctx c.toNat).attached = true → TimestampsPast s c.toNat →
    j < s.cfg.maxContexts → emptyGivenUp s c.toNat k.toNat j → (∀ i < j, ¬ emptyGivenUp s c.toNat k.toNat i) →
    let x := s.ctx c.toNat
    let n := x.robRing.num
    let free := freeGivenUp s c.toNat k.toNat
    k.toNat = x.core ∨ 32 ≤ (free .int).length ∧ 32 ≤ (free .fp).length →
    Accepts s (undoneStores x n).length →
      ∃ t, exec (.transferContext c k) s = .next t ∧ t.response = some (.ok [natWord n, natWord j])
        ∧ Admitted s t c.toNat k.toNat j free (regGivenUp s c.toNat k.toNat)
        ∧ (∀ k' b p, k' ≠ k.toNat → t.reg k' b p = regGivenUp s c.toNat k' b p)
        ∧ (∀ k' i, (t.core k').slotOf i = if k' = k.toNat ∧ i = j then some c.toNat
            else if k' = x.core ∧ i = x.slot then none else (s.core k').slotOf i)
        ∧ WregsUndone s t c.toNat n ∧ QueuesUndone s t c.toNat n ∧ MemoryUndone s t c.toNat n
        ∧ (t.ctx c.toNat).fetchPc = flushPc x ∧ (t.ctx c.toNat).fetchStallUntil = x.fetchStallUntil
        ∧ (∀ b i, (t.ctx c.toNat).gen b i = x.gen b i)
        ∧ t.trace = s.trace ++ (undoneStores x n).map replayEvent ++ [.insnCountDec c.toNat n]
        ∧ SameCtxsBut c.toNat s t ∧ (∀ k', k' ≠ x.core → k' ≠ k.toNat → t.core k' = s.core k')
        ∧ t.eng.nextSeq = s.eng.nextSeq ∧ t.cfg = s.cfg ∧ t.latch = s.latch ∧ t.port = s.port ∧ t.now = s.now

/-- TRANSFER_CONTEXT to another core without room, under the same conditions, is answered REJECT with the number squashed and
"−1" after the flush and the eviction have been performed: the context is detached, its registers FREE and its slot empty, the
target core unchanged, working registers and fetch PC kept for a later admission. A transfer to the context's own core is never
rejected (44_context.md, 70_reset_and_hazards.md section 2; notes/assumptions/5.md, 11.md). -/
def Obligations.TransferRejectedLeavesDetached : Prop :=
  ∀ (s : State) (c k : BitVec 8), EngineOk s → s.latch.set = false → c.toNat < s.cfg.numContexts →
    k.toNat < s.cfg.numCores → (s.ctx c.toNat).attached = true → TimestampsPast s c.toNat →
    let x := s.ctx c.toNat
    let n := x.robRing.num
    let full := ∀ j < s.cfg.maxContexts, (s.core k.toNat).slotOf j ≠ none
    let short := (freeList s k.toNat .int).length < 32 ∨ (freeList s k.toNat .fp).length < 32
    Accepts s (undoneStores x n).length →
      (∀ r, x.core ≠ k.toNat → (full ∧ r = .coreFull ∨ ¬full ∧ short ∧ r = .leaseShort) →
        ∃ t, exec (.transferContext c k) s = .next t ∧ t.response = some (.reject r [natWord n, minusOne])
          ∧ (t.ctx c.toNat).attached = false ∧ (t.core x.core).slotOf x.slot = none
          ∧ (∀ b p, t.reg x.core b p = if holds x b p then { s.reg x.core b p with state := .free } else s.reg x.core b p)
          ∧ WregsUndone s t c.toNat n ∧ QueuesUndone s t c.toNat n ∧ MemoryUndone s t c.toNat n
          ∧ (t.ctx c.toNat).fetchPc = flushPc x ∧ (t.ctx c.toNat).icount = 0
          ∧ t.trace = s.trace ++ (undoneStores x n).map replayEvent ++ [.insnCountDec c.toNat n]
          ∧ SameCtxsBut c.toNat s t ∧ SameCoresBut x.core s t)
      ∧ (x.core = k.toNat → ∃ t j, exec (.transferContext c k) s = .next t
          ∧ t.response = some (.ok [natWord n, natWord j]) ∧ j ≤ x.slot
          ∧ (t.ctx c.toNat).attached = true ∧ (t.ctx c.toNat).core = k.toNat ∧ (t.ctx c.toNat).slot = j
          ∧ (t.ctx c.toNat).robRing.num = 0 ∧ WregsUndone s t c.toNat n ∧ MemoryUndone s t c.toNat n)

/-- Where the eviction of TRANSFER_CONTEXT fails it is a defect, the flush having been performed. Where the invariants hold and a
committed register is still pending it is EJECT_PENDING_TIMESTAMP, with the events of the flush in the trace and its stores
replayed; then a transfer can raise no other defect than NOT_ATTACHED, MEM_REPLAY_FAULT and that. In any state with empty ROB and
LSQ the first of the 64 rename targets that fails raises EJECT_REG_STATE or EJECT_PENDING_TIMESTAMP; EJECT_NOT_QUIESCENT is never
raised (44_context.md). That memory and counters stand as the defect point left them is the model's choice
(notes/assumptions/8.md; also 5.md, 11.md). -/
def Obligations.TransferEvictionDefects : Prop :=
  ∀ (s : State) (c k : BitVec 8), s.latch.set = false → c.toNat < s.cfg.numContexts → k.toNat < s.cfg.numCores →
    let x := s.ctx c.toNat
    let n := x.robRing.num
    let r := fun a => s.reg x.core (bankOf a) (x.renameOf a)
    let passes := fun a => (r a).state = .architected ∧ (r a).readyCycle ≤ s.now ∧ (r a).specReadyCycle ≤ s.now
    let raises := fun d events => ∃ t, exec (.transferContext c k) s = .next t
      ∧ LatchedLate s t d (.transferContext c k) ∧ t.trace = s.trace ++ events
      ∧ t.env.mem = replayed s.env.mem (undoneStores x n) ∧ t.env.insnGlobal = s.env.insnGlobal - n
      ∧ ∀ j, Table.get 0 t.env.insn j = Table.get 0 s.env.insn j - (if j = c.toNat then (n : Int) else 0)
    (EngineOk s → x.attached = true → ¬ TimestampsPast s c.toNat → Accepts s (undoneStores x n).length →
        raises .ejectPendingTimestamp ((undoneStores x n).map replayEvent ++ [.insnCountDec c.toNat n]))
      ∧ (x.attached = true → n = 0 → x.lsqRing.num = 0 → ∀ a < 64, (∀ j < a, passes j) →
          ((r a).state ≠ .architected → raises .ejectRegState [.insnCountDec c.toNat 0])
            ∧ ((r a).state = .architected → (s.now < (r a).readyCycle ∨ s.now < (r a).specReadyCycle) →
                raises .ejectPendingTimestamp [.insnCountDec c.toNat 0]))
      ∧ ∀ t, exec (.transferContext c k) s = .next t →
          t.response ≠ some (.fatal Defect.ejectNotQuiescent.code)
          ∧ (EngineOk s → ∀ d : Defect, t.response = some (.fatal d.code) →
              d = .notAttached ∨ d = .memReplayFault ∨ d = .ejectPendingTimestamp ∧ ¬ TimestampsPast s c.toNat)

/-! ### No-op, fetch queue, working registers and read-outs (45_frontend_query.md) -/

/-- NOP: its encoding, every other header of its `OP` refused, and its answer OK with nothing changed, FATAL while the latch is
set; the response word of its OK is 0 (45_frontend_query.md R320). -/
def Obligations.NopDoesNothing : Prop :=
  Instr.nop.row = ⟨0x00, 0xFFFFFFFF, 0⟩
    ∧ (∀ (h : Header) (p : Payload), headerOp h = 0 →
        decode ⟨h, p⟩ = if h = 0 then .ok .nop else .error .reservedBits)
    ∧ (Response.ok []).word = 0
    ∧ ∀ s : State, (s.latch.set = false → exec .nop s = .next (s.answer (.ok [])))
        ∧ (s.latch.set = true → exec .nop s = .next (s.answer (.fatal s.latch.code)))

/-- IFQ_PUSH appends the record at the tail and answers its slot, STALL IFQ_FULL where the queue is full; IFQ_POP removes the
record at the head and answers it, NONE where the queue is empty; nothing else changes (45_frontend_query.md section 2). -/
def Obligations.FetchQueuePushAndPop : Prop :=
  ∀ (s : State) (c : BitVec 8) (pc payload : Word), s.latch.set = false → c.toNat < s.cfg.numContexts →
    (s.ctx c.toNat).attached = true →
    let x := s.ctx c.toNat
    let r := x.ifqRing
    let record := fun (y : Context) j => Table.get FetchRecord.blank y.ifq j
    let only := fun (t : State) => { t.ctx c.toNat with ifq := x.ifq, ifqRing := r } = x ∧ SameCtxsBut c.toNat s t
      ∧ SameCores s t ∧ t.eng.nextSeq = s.eng.nextSeq ∧ SameAround s t
    (r.num = r.cap → exec (.ifqPush c pc payload) s = .next (s.answer (.stall .ifqFull)))
      ∧ (r.num ≠ r.cap → ∃ t, exec (.ifqPush c pc payload) s = .next t ∧ t.response = some (.ok [natWord r.tail])
          ∧ (∀ j, record (t.ctx c.toNat) j = if j = r.tail then ⟨pc, payload⟩ else record x j)
          ∧ (t.ctx c.toNat).ifqRing = ⟨r.head, (r.tail + 1) % r.cap, r.num + 1, r.cap⟩ ∧ only t)
      ∧ (r.num = 0 → exec (.ifqPop c) s = .next (s.answer .empty))
      ∧ (r.num ≠ 0 → ∃ t, exec (.ifqPop c) s = .next t
          ∧ t.response = some (.ok [(record x r.head).pc, (record x r.head).payload])
          ∧ (∀ j, record (t.ctx c.toNat) j = record x j)
          ∧ (t.ctx c.toNat).ifqRing = ⟨(r.head + 1) % r.cap, r.tail, r.num - 1, r.cap⟩ ∧ only t)

/-- WREG_WRITE writes one working register and changes nothing else, WREG_READ answers one and changes nothing, both on attached
and detached contexts; an `archreg` of 64 or more is ILLEGAL BAD_ARCHREG (45_frontend_query.md section 3). -/
def Obligations.WorkingRegisterReadAndWrite : Prop :=
  ∀ (s : State) (c : BitVec 8) (a v : Word), s.latch.set = false → c.toNat < s.cfg.numContexts →
    (a.toNat < 64 → exec (.wregRead c a) s = .next (s.answer (.ok [(s.ctx c.toNat).wregOf a.toNat]))
        ∧ ∃ t, exec (.wregWrite c a v) s = .next t ∧ t.response = some (.ok [])
          ∧ (∀ b, (t.ctx c.toNat).wregOf b = if b = a.toNat then v else (s.ctx c.toNat).wregOf b)
          ∧ { t.ctx c.toNat with wreg := (s.ctx c.toNat).wreg } = s.ctx c.toNat
          ∧ SameCtxsBut c.toNat s t ∧ SameCores s t ∧ t.eng.nextSeq = s.eng.nextSeq ∧ SameAround s t)
      ∧ (64 ≤ a.toNat → exec (.wregRead c a) s = .next (s.answer (.illegal .badArchreg))
          ∧ exec (.wregWrite c a v) s = .next (s.answer (.illegal .badArchreg)))

/-- SET_FETCH_PC: its encoding; it writes `fetch_pc` of an attached or detached context, answers OK, and changes nothing else
(45_frontend_query.md R325). -/
def Obligations.SetFetchPcWritesFetchPc : Prop :=
  ∀ (s : State) (c : BitVec 8) (pc : Word),
    (Instr.setFetchPc c pc).row = ⟨0x16, 0xFF00FFFF, 1⟩
      ∧ (s.latch.set = false → c.toNat < s.cfg.numContexts →
          ∃ t, exec (.setFetchPc c pc) s = .next t ∧ t.response = some (.ok [])
            ∧ t.ctx c.toNat = { s.ctx c.toNat with fetchPc := pc }
            ∧ (t.ctx c.toNat).statusWords[14]? = some pc
            ∧ SameCtxsBut c.toNat s t ∧ SameCores s t ∧ t.eng.nextSeq = s.eng.nextSeq ∧ SameAround s t)

/-- ENTRY_READ of a live slot answers the sixteen words, with the flags of d10 in their bits, and changes nothing. Of a slot
outside the live window it answers 0, the generation and fourteen words that may be any, changing nothing but the draws
(45_frontend_query.md section 4, 92_eei_decisions.md D84, notes/assumptions/7.md; a generation or index too large for its word,
notes/assumptions/20.md). -/
def Obligations.EntryReadAnswersFields : Prop :=
  ∀ (s : State) (c : BitVec 8) (b : Buf) (slot : Word), s.latch.set = false → c.toNat < s.cfg.numContexts →
    (s.ctx c.toNat).attached = true → slot.toNat < ((s.ctx c.toNat).ring b).cap →
    let x := s.ctx c.toNat
    let e := x.entry b slot.toNat
    let gen := natWord (x.gen b slot.toNat)
    let live := (x.ring b).pos slot.toNat < (x.ring b).num
    (live → ∃ flags : Word,
        exec (.entryRead c b slot) s = .next (s.answer (.ok [1, gen, e.seq, e.opcode, e.pc, e.nextPc, e.predPc,
          optWord e.physreg, optWord e.oldPhysreg, BitVec.ofNat 64 e.archreg.toNat, flags, e.stackRecoverIdx, e.shadowValue,
          e.memAddr, BitVec.ofNat 64 e.memSize.toNat, e.shadowMem]))
        ∧ flags.toNat % 4 = (match e.destFormat with | .none => 0 | .int => 1 | .fp => 2)
        ∧ flags.getLsbD 2 = e.eaComp ∧ flags.getLsbD 3 = e.isLoad ∧ flags.getLsbD 4 = e.isStore
        ∧ flags.getLsbD 5 = e.dispatched ∧ flags.getLsbD 6 = e.queued ∧ flags.getLsbD 7 = e.issued
        ∧ flags.getLsbD 8 = e.completed ∧ flags.getLsbD 9 = e.inIq ∧ flags.toNat < 2 ^ 10)
      ∧ (¬live → ∃ (ws : List Word) (t : State), exec (.entryRead c b slot) s = .next t ∧ ws.length = 14
          ∧ t.response = some (.ok (0 :: gen :: ws)) ∧ t.eng = s.eng ∧ t.cfg = s.cfg ∧ t.latch = s.latch
          ∧ t.trace = s.trace ∧ t.port = s.port ∧ t.now = s.now
          ∧ t.env = { s.env with draws := s.env.draws.tail, drawn := s.env.drawn + 1 })
      ∧ (¬live → ∀ ws : List Word, ws.length = 14 →
          ∃ d t, exec (.entryRead c b slot) { s with env := { s.env with draws := d :: s.env.draws } } = .next t
            ∧ t.response = some (.ok (0 :: gen :: ws)))

/-- CTX_STATUS and CORE_STATUS answer the words of their layouts and change nothing, CTX_STATUS on attached and detached
contexts (45_frontend_query.md section 4). A count of `2^64` or more, which a bank of FREE registers can reach, is answered modulo
`2^64`: the model's choice (notes/assumptions/20.md). -/
def Obligations.StatusReadouts : Prop :=
  ∀ (s : State) (c k : BitVec 8), s.latch.set = false →
    (c.toNat < s.cfg.numContexts →
      let x := s.ctx c.toNat
      ∃ d0 : Word, exec (.ctxStatus c) s = .next (s.answer (.ok [d0, natWord x.robRing.head, natWord x.robRing.tail,
          natWord x.robRing.num, natWord x.robRing.cap, natWord x.lsqRing.head, natWord x.lsqRing.tail,
          natWord x.lsqRing.num, natWord x.lsqRing.cap, natWord x.ifqRing.head, natWord x.ifqRing.tail,
          natWord x.ifqRing.num, natWord x.ifqRing.cap, natWord x.icount, x.fetchPc, x.fetchStallUntil]))
        ∧ (x.attached = false → d0 = 0)
        ∧ (x.attached = true → x.core < 256 → x.slot < 256 → d0.toNat = 1 + 2 ^ 8 * x.core + 2 ^ 16 * x.slot))
    ∧ (k.toNat < s.cfg.numCores → s.cfg.maxContexts ≤ 64 →
      let y := s.core k.toNat
      let occupied := (List.range s.cfg.maxContexts).filter (fun n => decide (y.slotOf n ≠ none))
      ∃ d4 : Word, exec (.coreStatus k) s = .next (s.answer (.ok [natWord occupied.length, natWord y.iqCount,
          natWord (freeList s k.toNat .int).length, natWord (freeList s k.toNat .fp).length, d4,
          natWord y.wqWaiting.length, natWord y.wqIssueExec.length, natWord y.wqEvent.length, natWord y.wqReady.length]))
        ∧ ∀ n < 64, d4.getLsbD n = decide (n < s.cfg.maxContexts ∧ y.slotOf n ≠ none))

/-- FATAL_STATUS: its encoding; it answers the latch, whether it is set or clear, and changes nothing; a latch that is clear reads
0, 0, 0 where the invariant holds; it is the only command not answered FATAL while the latch is set
(45_frontend_query.md R329). -/
def Obligations.FatalStatusAnswersLatch : Prop :=
  Instr.fatalStatus.row = ⟨0x1A, 0xFFFFFFFF, 0⟩ ∧ Instr.fatalStatus.header = 0x0000001A
    ∧ ∀ s : State,
      exec .fatalStatus s = .next (s.answer (.ok [BitVec.ofNat 64 (s.latch.code.toNat * 2 ^ 8 + s.latch.set.toNat),
          BitVec.ofNat 64 s.latch.header.toNat, s.latch.now]))
        ∧ (LatchOk s → s.latch.set = false → exec .fatalStatus s = .next (s.answer (.ok [0, 0, 0])))
        ∧ (s.latch.set = true → ∀ i : Instr, i ≠ .fatalStatus →
            ∃ t, exec i s = .next t ∧ t.response = some (.fatal s.latch.code))
end

