-- ==== Sys2Proof/Laws/State.lean ====
section
/-! SUPPORT. One lemma per field per update of the state's records, true by unfolding once. -/

namespace Sys2Proof.Machine

/-! #### `setCtx` -/

@[simp] theorem State.setCtx_cfg (s : State) (c : Nat) (x : Context) : (s.setCtx c x).cfg = s.cfg := rfl
@[simp] theorem State.setCtx_eng (s : State) (c : Nat) (x : Context) : (s.setCtx c x).eng = { s.eng with contexts := Table.put s.eng.contexts c x } := rfl
@[simp] theorem State.setCtx_latch (s : State) (c : Nat) (x : Context) : (s.setCtx c x).latch = s.latch := rfl
@[simp] theorem State.setCtx_trace (s : State) (c : Nat) (x : Context) : (s.setCtx c x).trace = s.trace := rfl
@[simp] theorem State.setCtx_env (s : State) (c : Nat) (x : Context) : (s.setCtx c x).env = s.env := rfl
@[simp] theorem State.setCtx_port (s : State) (c : Nat) (x : Context) : (s.setCtx c x).port = s.port := rfl
@[simp] theorem State.setCtx_now (s : State) (c : Nat) (x : Context) : (s.setCtx c x).now = s.now := rfl
@[simp] theorem State.setCtx_response (s : State) (c : Nat) (x : Context) : (s.setCtx c x).response = s.response := rfl
@[simp] theorem State.setCtx_core (s : State) (c : Nat) (x : Context) (k : Nat) : (s.setCtx c x).core k = s.core k := rfl

/-! #### `setCore` -/

@[simp] theorem State.setCore_cfg (s : State) (k : Nat) (x : Core) : (s.setCore k x).cfg = s.cfg := rfl
@[simp] theorem State.setCore_eng (s : State) (k : Nat) (x : Core) : (s.setCore k x).eng = { s.eng with cores := Table.put s.eng.cores k x } := rfl
@[simp] theorem State.setCore_latch (s : State) (k : Nat) (x : Core) : (s.setCore k x).latch = s.latch := rfl
@[simp] theorem State.setCore_trace (s : State) (k : Nat) (x : Core) : (s.setCore k x).trace = s.trace := rfl
@[simp] theorem State.setCore_env (s : State) (k : Nat) (x : Core) : (s.setCore k x).env = s.env := rfl
@[simp] theorem State.setCore_port (s : State) (k : Nat) (x : Core) : (s.setCore k x).port = s.port := rfl
@[simp] theorem State.setCore_now (s : State) (k : Nat) (x : Core) : (s.setCore k x).now = s.now := rfl
@[simp] theorem State.setCore_response (s : State) (k : Nat) (x : Core) : (s.setCore k x).response = s.response := rfl
@[simp] theorem State.setCore_ctx (s : State) (k : Nat) (x : Core) (c : Nat) : (s.setCore k x).ctx c = s.ctx c := rfl

/-! #### `updCtx` -/

@[simp] theorem State.updCtx_cfg (s : State) (c : Nat) (f : Context → Context) : (s.updCtx c f).cfg = s.cfg := rfl
@[simp] theorem State.updCtx_eng (s : State) (c : Nat) (f : Context → Context) : (s.updCtx c f).eng = { s.eng with contexts := Table.put s.eng.contexts c (f (s.ctx c)) } := rfl
@[simp] theorem State.updCtx_latch (s : State) (c : Nat) (f : Context → Context) : (s.updCtx c f).latch = s.latch := rfl
@[simp] theorem State.updCtx_trace (s : State) (c : Nat) (f : Context → Context) : (s.updCtx c f).trace = s.trace := rfl
@[simp] theorem State.updCtx_env (s : State) (c : Nat) (f : Context → Context) : (s.updCtx c f).env = s.env := rfl
@[simp] theorem State.updCtx_port (s : State) (c : Nat) (f : Context → Context) : (s.updCtx c f).port = s.port := rfl
@[simp] theorem State.updCtx_now (s : State) (c : Nat) (f : Context → Context) : (s.updCtx c f).now = s.now := rfl
@[simp] theorem State.updCtx_response (s : State) (c : Nat) (f : Context → Context) : (s.updCtx c f).response = s.response := rfl
@[simp] theorem State.updCtx_core (s : State) (c : Nat) (f : Context → Context) (k : Nat) : (s.updCtx c f).core k = s.core k := rfl

/-! #### `updCore` -/

@[simp] theorem State.updCore_cfg (s : State) (k : Nat) (f : Core → Core) : (s.updCore k f).cfg = s.cfg := rfl
@[simp] theorem State.updCore_eng (s : State) (k : Nat) (f : Core → Core) : (s.updCore k f).eng = { s.eng with cores := Table.put s.eng.cores k (f (s.core k)) } := rfl
@[simp] theorem State.updCore_latch (s : State) (k : Nat) (f : Core → Core) : (s.updCore k f).latch = s.latch := rfl
@[simp] theorem State.updCore_trace (s : State) (k : Nat) (f : Core → Core) : (s.updCore k f).trace = s.trace := rfl
@[simp] theorem State.updCore_env (s : State) (k : Nat) (f : Core → Core) : (s.updCore k f).env = s.env := rfl
@[simp] theorem State.updCore_port (s : State) (k : Nat) (f : Core → Core) : (s.updCore k f).port = s.port := rfl
@[simp] theorem State.updCore_now (s : State) (k : Nat) (f : Core → Core) : (s.updCore k f).now = s.now := rfl
@[simp] theorem State.updCore_response (s : State) (k : Nat) (f : Core → Core) : (s.updCore k f).response = s.response := rfl
@[simp] theorem State.updCore_ctx (s : State) (k : Nat) (f : Core → Core) (c : Nat) : (s.updCore k f).ctx c = s.ctx c := rfl

/-! #### `setReg` -/

@[simp] theorem State.setReg_cfg (s : State) (k : Nat) (b : Bank) (p : Nat) (r : PhysReg) : (s.setReg k b p r).cfg = s.cfg := rfl
@[simp] theorem State.setReg_latch (s : State) (k : Nat) (b : Bank) (p : Nat) (r : PhysReg) : (s.setReg k b p r).latch = s.latch := rfl
@[simp] theorem State.setReg_trace (s : State) (k : Nat) (b : Bank) (p : Nat) (r : PhysReg) : (s.setReg k b p r).trace = s.trace := rfl
@[simp] theorem State.setReg_env (s : State) (k : Nat) (b : Bank) (p : Nat) (r : PhysReg) : (s.setReg k b p r).env = s.env := rfl
@[simp] theorem State.setReg_port (s : State) (k : Nat) (b : Bank) (p : Nat) (r : PhysReg) : (s.setReg k b p r).port = s.port := rfl
@[simp] theorem State.setReg_now (s : State) (k : Nat) (b : Bank) (p : Nat) (r : PhysReg) : (s.setReg k b p r).now = s.now := rfl
@[simp] theorem State.setReg_response (s : State) (k : Nat) (b : Bank) (p : Nat) (r : PhysReg) : (s.setReg k b p r).response = s.response := rfl
@[simp] theorem State.setReg_ctx (s : State) (k : Nat) (b : Bank) (p : Nat) (r : PhysReg) (c : Nat) : (s.setReg k b p r).ctx c = s.ctx c := rfl

/-! #### `setRegState` -/

@[simp] theorem State.setRegState_cfg (s : State) (k : Nat) (b : Bank) (p : Nat) (st : RegState) : (s.setRegState k b p st).cfg = s.cfg := rfl
@[simp] theorem State.setRegState_latch (s : State) (k : Nat) (b : Bank) (p : Nat) (st : RegState) : (s.setRegState k b p st).latch = s.latch := rfl
@[simp] theorem State.setRegState_trace (s : State) (k : Nat) (b : Bank) (p : Nat) (st : RegState) : (s.setRegState k b p st).trace = s.trace := rfl
@[simp] theorem State.setRegState_env (s : State) (k : Nat) (b : Bank) (p : Nat) (st : RegState) : (s.setRegState k b p st).env = s.env := rfl
@[simp] theorem State.setRegState_port (s : State) (k : Nat) (b : Bank) (p : Nat) (st : RegState) : (s.setRegState k b p st).port = s.port := rfl
@[simp] theorem State.setRegState_now (s : State) (k : Nat) (b : Bank) (p : Nat) (st : RegState) : (s.setRegState k b p st).now = s.now := rfl
@[simp] theorem State.setRegState_response (s : State) (k : Nat) (b : Bank) (p : Nat) (st : RegState) : (s.setRegState k b p st).response = s.response := rfl
@[simp] theorem State.setRegState_ctx (s : State) (k : Nat) (b : Bank) (p : Nat) (st : RegState) (c : Nat) : (s.setRegState k b p st).ctx c = s.ctx c := rfl

/-! #### `removeFromAllQueues` -/

@[simp] theorem State.removeFromAllQueues_cfg (s : State) (k c : Nat) (b : Buf) (i : Nat) : (removeFromAllQueues k c b i s).cfg = s.cfg := rfl
@[simp] theorem State.removeFromAllQueues_latch (s : State) (k c : Nat) (b : Buf) (i : Nat) : (removeFromAllQueues k c b i s).latch = s.latch := rfl
@[simp] theorem State.removeFromAllQueues_trace (s : State) (k c : Nat) (b : Buf) (i : Nat) : (removeFromAllQueues k c b i s).trace = s.trace := rfl
@[simp] theorem State.removeFromAllQueues_env (s : State) (k c : Nat) (b : Buf) (i : Nat) : (removeFromAllQueues k c b i s).env = s.env := rfl
@[simp] theorem State.removeFromAllQueues_port (s : State) (k c : Nat) (b : Buf) (i : Nat) : (removeFromAllQueues k c b i s).port = s.port := rfl
@[simp] theorem State.removeFromAllQueues_now (s : State) (k c : Nat) (b : Buf) (i : Nat) : (removeFromAllQueues k c b i s).now = s.now := rfl
@[simp] theorem State.removeFromAllQueues_response (s : State) (k c : Nat) (b : Buf) (i : Nat) : (removeFromAllQueues k c b i s).response = s.response := rfl
@[simp] theorem State.removeFromAllQueues_ctx (s : State) (k c : Nat) (b : Buf) (i c' : Nat) : (removeFromAllQueues k c b i s).ctx c' = s.ctx c' := rfl

/-! #### `answer` -/

@[simp] theorem State.answer_cfg (s : State) (r : Response) : (s.answer r).cfg = s.cfg := rfl
@[simp] theorem State.answer_eng (s : State) (r : Response) : (s.answer r).eng = s.eng := rfl
@[simp] theorem State.answer_latch (s : State) (r : Response) : (s.answer r).latch = s.latch := rfl
@[simp] theorem State.answer_trace (s : State) (r : Response) : (s.answer r).trace = s.trace := rfl
@[simp] theorem State.answer_env (s : State) (r : Response) : (s.answer r).env = s.env := rfl
@[simp] theorem State.answer_port (s : State) (r : Response) : (s.answer r).port = s.port := rfl
@[simp] theorem State.answer_now (s : State) (r : Response) : (s.answer r).now = s.now := rfl
@[simp] theorem State.answer_response (s : State) (r : Response) : (s.answer r).response = some r := rfl
@[simp] theorem State.answer_ctx (s : State) (r : Response) (c' : Nat) : (s.answer r).ctx c' = s.ctx c' := rfl
@[simp] theorem State.answer_core (s : State) (r : Response) (k' : Nat) : (s.answer r).core k' = s.core k' := rfl

/-! #### `emit` -/

@[simp] theorem State.emit_cfg (s : State) (ev : Event) : (s.emit ev).cfg = s.cfg := rfl
@[simp] theorem State.emit_eng (s : State) (ev : Event) : (s.emit ev).eng = s.eng := rfl
@[simp] theorem State.emit_latch (s : State) (ev : Event) : (s.emit ev).latch = s.latch := rfl
@[simp] theorem State.emit_trace (s : State) (ev : Event) : (s.emit ev).trace = s.trace ++ [ev] := rfl
@[simp] theorem State.emit_env (s : State) (ev : Event) : (s.emit ev).env = s.env := rfl
@[simp] theorem State.emit_port (s : State) (ev : Event) : (s.emit ev).port = s.port := rfl
@[simp] theorem State.emit_now (s : State) (ev : Event) : (s.emit ev).now = s.now := rfl
@[simp] theorem State.emit_response (s : State) (ev : Event) : (s.emit ev).response = s.response := rfl
@[simp] theorem State.emit_ctx (s : State) (ev : Event) (c' : Nat) : (s.emit ev).ctx c' = s.ctx c' := rfl
@[simp] theorem State.emit_core (s : State) (ev : Event) (k' : Nat) : (s.emit ev).core k' = s.core k' := rfl

/-! #### `countAdd` -/

@[simp] theorem State.countAdd_cfg (s : State) (c : Nat) (n : Int) : (s.countAdd c n).cfg = s.cfg := rfl
@[simp] theorem State.countAdd_eng (s : State) (c : Nat) (n : Int) : (s.countAdd c n).eng = s.eng := rfl
@[simp] theorem State.countAdd_latch (s : State) (c : Nat) (n : Int) : (s.countAdd c n).latch = s.latch := rfl
@[simp] theorem State.countAdd_trace (s : State) (c : Nat) (n : Int) : (s.countAdd c n).trace = s.trace := rfl
@[simp] theorem State.countAdd_port (s : State) (c : Nat) (n : Int) : (s.countAdd c n).port = s.port := rfl
@[simp] theorem State.countAdd_now (s : State) (c : Nat) (n : Int) : (s.countAdd c n).now = s.now := rfl
@[simp] theorem State.countAdd_response (s : State) (c : Nat) (n : Int) : (s.countAdd c n).response = s.response := rfl
@[simp] theorem State.countAdd_ctx (s : State) (c : Nat) (n : Int) (c' : Nat) : (s.countAdd c n).ctx c' = s.ctx c' := rfl
@[simp] theorem State.countAdd_core (s : State) (c : Nat) (n : Int) (k' : Nat) : (s.countAdd c n).core k' = s.core k' := rfl
@[simp] theorem State.countAdd_env_mem (s : State) (c : Nat) (n : Int) : (s.countAdd c n).env.mem = s.env.mem := rfl
@[simp] theorem State.countAdd_env_draws (s : State) (c : Nat) (n : Int) : (s.countAdd c n).env.draws = s.env.draws := rfl
@[simp] theorem State.countAdd_env_drawn (s : State) (c : Nat) (n : Int) : (s.countAdd c n).env.drawn = s.env.drawn := rfl
@[simp] theorem State.countAdd_env_insnGlobal (s : State) (c : Nat) (n : Int) : (s.countAdd c n).env.insnGlobal = s.env.insnGlobal + n := rfl
@[simp] theorem State.countAdd_env_insn (s : State) (c : Nat) (n : Int) : (s.countAdd c n).env.insn = Table.put s.env.insn c (Table.get 0 s.env.insn c + n) := rfl

/-! #### `emitCountDec` -/

@[simp] theorem State.emitCountDec_cfg (s : State) (c n : Nat) : (emitCountDec c n s).cfg = s.cfg := rfl
@[simp] theorem State.emitCountDec_eng (s : State) (c n : Nat) : (emitCountDec c n s).eng = s.eng := rfl
@[simp] theorem State.emitCountDec_latch (s : State) (c n : Nat) : (emitCountDec c n s).latch = s.latch := rfl
@[simp] theorem State.emitCountDec_trace (s : State) (c n : Nat) : (emitCountDec c n s).trace = s.trace ++ [.insnCountDec c n] := rfl
@[simp] theorem State.emitCountDec_port (s : State) (c n : Nat) : (emitCountDec c n s).port = s.port := rfl
@[simp] theorem State.emitCountDec_now (s : State) (c n : Nat) : (emitCountDec c n s).now = s.now := rfl
@[simp] theorem State.emitCountDec_response (s : State) (c n : Nat) : (emitCountDec c n s).response = s.response := rfl
@[simp] theorem State.emitCountDec_ctx (s : State) (c n : Nat) (c' : Nat) : (emitCountDec c n s).ctx c' = s.ctx c' := rfl
@[simp] theorem State.emitCountDec_core (s : State) (c n : Nat) (k' : Nat) : (emitCountDec c n s).core k' = s.core k' := rfl
@[simp] theorem State.emitCountDec_mem (s : State) (c n : Nat) : (emitCountDec c n s).env.mem = s.env.mem := rfl

/-! #### `afterDraw` -/

@[simp] theorem State.afterDraw_cfg (s : State) : (s.afterDraw).cfg = s.cfg := rfl
@[simp] theorem State.afterDraw_eng (s : State) : (s.afterDraw).eng = s.eng := rfl
@[simp] theorem State.afterDraw_latch (s : State) : (s.afterDraw).latch = s.latch := rfl
@[simp] theorem State.afterDraw_trace (s : State) : (s.afterDraw).trace = s.trace := rfl
@[simp] theorem State.afterDraw_port (s : State) : (s.afterDraw).port = s.port := rfl
@[simp] theorem State.afterDraw_now (s : State) : (s.afterDraw).now = s.now := rfl
@[simp] theorem State.afterDraw_response (s : State) : (s.afterDraw).response = s.response := rfl
@[simp] theorem State.afterDraw_ctx (s : State) (c' : Nat) : (s.afterDraw).ctx c' = s.ctx c' := rfl
@[simp] theorem State.afterDraw_core (s : State) (k' : Nat) : (s.afterDraw).core k' = s.core k' := rfl
@[simp] theorem State.afterDraw_env_mem (s : State) : s.afterDraw.env.mem = s.env.mem := rfl
@[simp] theorem State.afterDraw_env_insnGlobal (s : State) : s.afterDraw.env.insnGlobal = s.env.insnGlobal := rfl
@[simp] theorem State.afterDraw_env_insn (s : State) : s.afterDraw.env.insn = s.env.insn := rfl
@[simp] theorem State.afterDraw_env_draws (s : State) : s.afterDraw.env.draws = s.env.draws.tail := rfl
@[simp] theorem State.afterDraw_env_drawn (s : State) : s.afterDraw.env.drawn = s.env.drawn + 1 := rfl

/-! #### `replayWrite` -/

@[simp] theorem State.replayWrite_cfg (s : State) (a : Word) (n : BitVec 4) (d : Word) : (replayWrite a n d s).cfg = s.cfg := rfl
@[simp] theorem State.replayWrite_eng (s : State) (a : Word) (n : BitVec 4) (d : Word) : (replayWrite a n d s).eng = s.eng := rfl
@[simp] theorem State.replayWrite_latch (s : State) (a : Word) (n : BitVec 4) (d : Word) : (replayWrite a n d s).latch = s.latch := rfl
@[simp] theorem State.replayWrite_trace (s : State) (a : Word) (n : BitVec 4) (d : Word) : (replayWrite a n d s).trace = s.trace ++ [.memWrite a n (bytesOf d n.toNat) (drawFaults s.nextDraw)] := rfl
@[simp] theorem State.replayWrite_port (s : State) (a : Word) (n : BitVec 4) (d : Word) : (replayWrite a n d s).port = s.port := rfl
@[simp] theorem State.replayWrite_now (s : State) (a : Word) (n : BitVec 4) (d : Word) : (replayWrite a n d s).now = s.now := rfl
@[simp] theorem State.replayWrite_response (s : State) (a : Word) (n : BitVec 4) (d : Word) : (replayWrite a n d s).response = s.response := rfl
@[simp] theorem State.replayWrite_ctx (s : State) (a : Word) (n : BitVec 4) (d : Word) (c' : Nat) : (replayWrite a n d s).ctx c' = s.ctx c' := rfl
@[simp] theorem State.replayWrite_core (s : State) (a : Word) (n : BitVec 4) (d : Word) (k' : Nat) : (replayWrite a n d s).core k' = s.core k' := rfl
@[simp] theorem State.replayWrite_env_mem (s : State) (a : Word) (n : BitVec 4) (d : Word) : (replayWrite a n d s).env.mem = if drawFaults s.nextDraw then s.env.mem.writeMasked a (bytesOf d n.toNat) (s.nextDraw / 2) else s.env.mem.writeBytes a (bytesOf d n.toNat) := rfl
@[simp] theorem State.replayWrite_env_draws (s : State) (a : Word) (n : BitVec 4) (d : Word) : (replayWrite a n d s).env.draws = s.env.draws.tail := rfl
@[simp] theorem State.replayWrite_env_insnGlobal (s : State) (a : Word) (n : BitVec 4) (d : Word) : (replayWrite a n d s).env.insnGlobal = s.env.insnGlobal := rfl
@[simp] theorem State.replayWrite_env_insn (s : State) (a : Word) (n : BitVec 4) (d : Word) : (replayWrite a n d s).env.insn = s.env.insn := rfl

/-! #### `bumpSeq` -/

@[simp] theorem State.bumpSeq_cfg (s : State) : (s.bumpSeq).cfg = s.cfg := rfl
@[simp] theorem State.bumpSeq_eng (s : State) : (s.bumpSeq).eng = { s.eng with nextSeq := s.eng.nextSeq + 1 } := rfl
@[simp] theorem State.bumpSeq_latch (s : State) : (s.bumpSeq).latch = s.latch := rfl
@[simp] theorem State.bumpSeq_trace (s : State) : (s.bumpSeq).trace = s.trace := rfl
@[simp] theorem State.bumpSeq_env (s : State) : (s.bumpSeq).env = s.env := rfl
@[simp] theorem State.bumpSeq_port (s : State) : (s.bumpSeq).port = s.port := rfl
@[simp] theorem State.bumpSeq_now (s : State) : (s.bumpSeq).now = s.now := rfl
@[simp] theorem State.bumpSeq_response (s : State) : (s.bumpSeq).response = s.response := rfl
@[simp] theorem State.bumpSeq_ctx (s : State) (c : Nat) : s.bumpSeq.ctx c = s.ctx c := rfl
@[simp] theorem State.bumpSeq_core (s : State) (k : Nat) : s.bumpSeq.core k = s.core k := rfl

/-! #### `raiseFatal` -/

@[simp] theorem State.raiseFatal_cfg (s : State) (d : Defect) (h : Header) : (s.raiseFatal d h).cfg = s.cfg := rfl
@[simp] theorem State.raiseFatal_latch (s : State) (d : Defect) (h : Header) : (s.raiseFatal d h).latch = ⟨true, d.code, h, s.now⟩ := rfl
@[simp] theorem State.raiseFatal_trace (s : State) (d : Defect) (h : Header) : (s.raiseFatal d h).trace = s.trace := rfl
@[simp] theorem State.raiseFatal_port (s : State) (d : Defect) (h : Header) : (s.raiseFatal d h).port = s.port := rfl
@[simp] theorem State.raiseFatal_now (s : State) (d : Defect) (h : Header) : (s.raiseFatal d h).now = s.now := rfl
@[simp] theorem State.raiseFatal_response (s : State) (d : Defect) (h : Header) : (s.raiseFatal d h).response = some (.fatal d.code) := rfl
@[simp] theorem State.raiseFatal_env_mem (s : State) (d : Defect) (h : Header) : (s.raiseFatal d h).env.mem = s.env.mem := rfl
@[simp] theorem State.raiseFatal_env_insnGlobal (s : State) (d : Defect) (h : Header) : (s.raiseFatal d h).env.insnGlobal = s.env.insnGlobal := rfl
@[simp] theorem State.raiseFatal_env_insn (s : State) (d : Defect) (h : Header) : (s.raiseFatal d h).env.insn = s.env.insn := rfl
@[simp] theorem State.raiseFatal_env_draws (s : State) (d : Defect) (h : Header) : (s.raiseFatal d h).env.draws = s.env.draws := rfl

/-! #### `engineReset` -/

@[simp] theorem State.engineReset_cfg (s : State) : (s.engineReset).cfg = s.cfg := rfl
@[simp] theorem State.engineReset_eng (s : State) : (s.engineReset).eng = .reset := rfl
@[simp] theorem State.engineReset_latch (s : State) : (s.engineReset).latch = .reset := rfl
@[simp] theorem State.engineReset_trace (s : State) : (s.engineReset).trace = [] := rfl
@[simp] theorem State.engineReset_env (s : State) : (s.engineReset).env = s.env := rfl
@[simp] theorem State.engineReset_port (s : State) : (s.engineReset).port = s.port := rfl
@[simp] theorem State.engineReset_now (s : State) : (s.engineReset).now = 0 := rfl
@[simp] theorem State.engineReset_response (s : State) : (s.engineReset).response = none := rfl

/-! #### `accept` -/

@[simp] theorem State.accept_cfg (s : State) (rest : List PortInput) (w : Word) : (s.accept rest w).cfg = s.cfg := rfl
@[simp] theorem State.accept_eng (s : State) (rest : List PortInput) (w : Word) : (s.accept rest w).eng = s.eng := rfl
@[simp] theorem State.accept_latch (s : State) (rest : List PortInput) (w : Word) : (s.accept rest w).latch = s.latch := rfl
@[simp] theorem State.accept_trace (s : State) (rest : List PortInput) (w : Word) : (s.accept rest w).trace = s.trace := rfl
@[simp] theorem State.accept_env (s : State) (rest : List PortInput) (w : Word) : (s.accept rest w).env = s.env := rfl
@[simp] theorem State.accept_port (s : State) (rest : List PortInput) (w : Word) : (s.accept rest w).port = rest := rfl
@[simp] theorem State.accept_now (s : State) (rest : List PortInput) (w : Word) : (s.accept rest w).now = w := rfl
@[simp] theorem State.accept_response (s : State) (rest : List PortInput) (w : Word) : (s.accept rest w).response = s.response := rfl
@[simp] theorem State.accept_ctx (s : State) (rest : List PortInput) (w : Word) (c' : Nat) : (s.accept rest w).ctx c' = s.ctx c' := rfl
@[simp] theorem State.accept_core (s : State) (rest : List PortInput) (w : Word) (k' : Nat) : (s.accept rest w).core k' = s.core k' := rfl

/-! #### `executorStore` -/

@[simp] theorem State.executorStore_cfg (s : State) (a : Word) (l : List Byte) : (executorStore a l s).cfg = s.cfg := rfl
@[simp] theorem State.executorStore_eng (s : State) (a : Word) (l : List Byte) : (executorStore a l s).eng = s.eng := rfl
@[simp] theorem State.executorStore_latch (s : State) (a : Word) (l : List Byte) : (executorStore a l s).latch = s.latch := rfl
@[simp] theorem State.executorStore_trace (s : State) (a : Word) (l : List Byte) : (executorStore a l s).trace = s.trace := rfl
@[simp] theorem State.executorStore_env (s : State) (a : Word) (l : List Byte) : (executorStore a l s).env = { s.env with mem := s.env.mem.writeBytes a l } := rfl
@[simp] theorem State.executorStore_port (s : State) (a : Word) (l : List Byte) : (executorStore a l s).port = s.port := rfl
@[simp] theorem State.executorStore_now (s : State) (a : Word) (l : List Byte) : (executorStore a l s).now = s.now := rfl
@[simp] theorem State.executorStore_response (s : State) (a : Word) (l : List Byte) : (executorStore a l s).response = s.response := rfl
@[simp] theorem State.executorStore_ctx (s : State) (a : Word) (l : List Byte) (c' : Nat) : (executorStore a l s).ctx c' = s.ctx c' := rfl
@[simp] theorem State.executorStore_core (s : State) (a : Word) (l : List Byte) (k' : Nat) : (executorStore a l s).core k' = s.core k' := rfl

/-! #### `withFetchWord` -/

@[simp] theorem State.withFetchWord_cfg (s : State) (n w : Nat) : (s.withFetchWord n w).cfg = s.cfg := rfl
@[simp] theorem State.withFetchWord_eng (s : State) (n w : Nat) : (s.withFetchWord n w).eng = s.eng := rfl
@[simp] theorem State.withFetchWord_latch (s : State) (n w : Nat) : (s.withFetchWord n w).latch = s.latch := rfl
@[simp] theorem State.withFetchWord_trace (s : State) (n w : Nat) : (s.withFetchWord n w).trace = s.trace := rfl
@[simp] theorem State.withFetchWord_env (s : State) (n w : Nat) : (s.withFetchWord n w).env = s.env := rfl
@[simp] theorem State.withFetchWord_port (s : State) (n w : Nat) : (s.withFetchWord n w).port = fetchInput s n w :: s.port := rfl
@[simp] theorem State.withFetchWord_now (s : State) (n w : Nat) : (s.withFetchWord n w).now = s.now := rfl
@[simp] theorem State.withFetchWord_response (s : State) (n w : Nat) : (s.withFetchWord n w).response = s.response := rfl
@[simp] theorem State.withFetchWord_ctx (s : State) (n w : Nat) (c' : Nat) : (s.withFetchWord n w).ctx c' = s.ctx c' := rfl
@[simp] theorem State.withFetchWord_core (s : State) (n w : Nat) (k' : Nat) : (s.withFetchWord n w).core k' = s.core k' := rfl

/-! #### `Context.appendRob` -/

@[simp] theorem Context.appendRob_attached (x : Context) (e : Entry) : (x.appendRob e).attached = x.attached := rfl
@[simp] theorem Context.appendRob_core (x : Context) (e : Entry) : (x.appendRob e).core = x.core := rfl
@[simp] theorem Context.appendRob_slot (x : Context) (e : Entry) : (x.appendRob e).slot = x.slot := rfl
@[simp] theorem Context.appendRob_robRing (x : Context) (e : Entry) : (x.appendRob e).robRing = x.robRing.pushTail := rfl
@[simp] theorem Context.appendRob_rob (x : Context) (e : Entry) : (x.appendRob e).rob = Table.put x.rob x.robRing.tail e := rfl
@[simp] theorem Context.appendRob_robGen (x : Context) (e : Entry) : (x.appendRob e).robGen = Table.put x.robGen x.robRing.tail (Table.get 0 x.robGen x.robRing.tail + 1) := rfl
@[simp] theorem Context.appendRob_lsqRing (x : Context) (e : Entry) : (x.appendRob e).lsqRing = x.lsqRing := rfl
@[simp] theorem Context.appendRob_lsq (x : Context) (e : Entry) : (x.appendRob e).lsq = x.lsq := rfl
@[simp] theorem Context.appendRob_lsqGen (x : Context) (e : Entry) : (x.appendRob e).lsqGen = x.lsqGen := rfl
@[simp] theorem Context.appendRob_ifqRing (x : Context) (e : Entry) : (x.appendRob e).ifqRing = x.ifqRing := rfl
@[simp] theorem Context.appendRob_ifq (x : Context) (e : Entry) : (x.appendRob e).ifq = x.ifq := rfl
@[simp] theorem Context.appendRob_rename (x : Context) (e : Entry) : (x.appendRob e).rename = x.rename := rfl
@[simp] theorem Context.appendRob_wreg (x : Context) (e : Entry) : (x.appendRob e).wreg = x.wreg := rfl
@[simp] theorem Context.appendRob_icount (x : Context) (e : Entry) : (x.appendRob e).icount = x.icount := rfl
@[simp] theorem Context.appendRob_fetchPc (x : Context) (e : Entry) : (x.appendRob e).fetchPc = x.fetchPc := rfl
@[simp] theorem Context.appendRob_fetchStallUntil (x : Context) (e : Entry) : (x.appendRob e).fetchStallUntil = x.fetchStallUntil := rfl

/-! #### `Context.appendLsq` -/

@[simp] theorem Context.appendLsq_attached (x : Context) (e : Entry) : (x.appendLsq e).attached = x.attached := rfl
@[simp] theorem Context.appendLsq_core (x : Context) (e : Entry) : (x.appendLsq e).core = x.core := rfl
@[simp] theorem Context.appendLsq_slot (x : Context) (e : Entry) : (x.appendLsq e).slot = x.slot := rfl
@[simp] theorem Context.appendLsq_robRing (x : Context) (e : Entry) : (x.appendLsq e).robRing = x.robRing := rfl
@[simp] theorem Context.appendLsq_rob (x : Context) (e : Entry) : (x.appendLsq e).rob = x.rob := rfl
@[simp] theorem Context.appendLsq_robGen (x : Context) (e : Entry) : (x.appendLsq e).robGen = x.robGen := rfl
@[simp] theorem Context.appendLsq_lsqRing (x : Context) (e : Entry) : (x.appendLsq e).lsqRing = x.lsqRing.pushTail := rfl
@[simp] theorem Context.appendLsq_lsq (x : Context) (e : Entry) : (x.appendLsq e).lsq = Table.put x.lsq x.lsqRing.tail e := rfl
@[simp] theorem Context.appendLsq_lsqGen (x : Context) (e : Entry) : (x.appendLsq e).lsqGen = Table.put x.lsqGen x.lsqRing.tail (Table.get 0 x.lsqGen x.lsqRing.tail + 1) := rfl
@[simp] theorem Context.appendLsq_ifqRing (x : Context) (e : Entry) : (x.appendLsq e).ifqRing = x.ifqRing := rfl
@[simp] theorem Context.appendLsq_ifq (x : Context) (e : Entry) : (x.appendLsq e).ifq = x.ifq := rfl
@[simp] theorem Context.appendLsq_rename (x : Context) (e : Entry) : (x.appendLsq e).rename = x.rename := rfl
@[simp] theorem Context.appendLsq_wreg (x : Context) (e : Entry) : (x.appendLsq e).wreg = x.wreg := rfl
@[simp] theorem Context.appendLsq_icount (x : Context) (e : Entry) : (x.appendLsq e).icount = x.icount := rfl
@[simp] theorem Context.appendLsq_fetchPc (x : Context) (e : Entry) : (x.appendLsq e).fetchPc = x.fetchPc := rfl
@[simp] theorem Context.appendLsq_fetchStallUntil (x : Context) (e : Entry) : (x.appendLsq e).fetchStallUntil = x.fetchStallUntil := rfl

/-! #### `Context.admitted` -/

@[simp] theorem Context.admitted_attached (x : Context) (k n : Nat) (t : Config.SlotTemplate) : (x.admitted k n t).attached = true := rfl
@[simp] theorem Context.admitted_core (x : Context) (k n : Nat) (t : Config.SlotTemplate) : (x.admitted k n t).core = k := rfl
@[simp] theorem Context.admitted_slot (x : Context) (k n : Nat) (t : Config.SlotTemplate) : (x.admitted k n t).slot = n := rfl
@[simp] theorem Context.admitted_robRing (x : Context) (k n : Nat) (t : Config.SlotTemplate) : (x.admitted k n t).robRing = ⟨0, 0, 0, t.robCap⟩ := rfl
@[simp] theorem Context.admitted_rob (x : Context) (k n : Nat) (t : Config.SlotTemplate) : (x.admitted k n t).rob = x.rob := rfl
@[simp] theorem Context.admitted_robGen (x : Context) (k n : Nat) (t : Config.SlotTemplate) : (x.admitted k n t).robGen = x.robGen := rfl
@[simp] theorem Context.admitted_lsqRing (x : Context) (k n : Nat) (t : Config.SlotTemplate) : (x.admitted k n t).lsqRing = ⟨0, 0, 0, t.lsqCap⟩ := rfl
@[simp] theorem Context.admitted_lsq (x : Context) (k n : Nat) (t : Config.SlotTemplate) : (x.admitted k n t).lsq = x.lsq := rfl
@[simp] theorem Context.admitted_lsqGen (x : Context) (k n : Nat) (t : Config.SlotTemplate) : (x.admitted k n t).lsqGen = x.lsqGen := rfl
@[simp] theorem Context.admitted_ifqRing (x : Context) (k n : Nat) (t : Config.SlotTemplate) : (x.admitted k n t).ifqRing = ⟨0, 0, 0, t.ifqCap⟩ := rfl
@[simp] theorem Context.admitted_ifq (x : Context) (k n : Nat) (t : Config.SlotTemplate) : (x.admitted k n t).ifq = x.ifq := rfl
@[simp] theorem Context.admitted_rename (x : Context) (k n : Nat) (t : Config.SlotTemplate) : (x.admitted k n t).rename = x.rename := rfl
@[simp] theorem Context.admitted_wreg (x : Context) (k n : Nat) (t : Config.SlotTemplate) : (x.admitted k n t).wreg = x.wreg := rfl
@[simp] theorem Context.admitted_icount (x : Context) (k n : Nat) (t : Config.SlotTemplate) : (x.admitted k n t).icount = 0 := rfl
@[simp] theorem Context.admitted_fetchPc (x : Context) (k n : Nat) (t : Config.SlotTemplate) : (x.admitted k n t).fetchPc = x.fetchPc := rfl
@[simp] theorem Context.admitted_fetchStallUntil (x : Context) (k n : Nat) (t : Config.SlotTemplate) : (x.admitted k n t).fetchStallUntil = x.fetchStallUntil := rfl

/-! #### `Context.evicted` -/

@[simp] theorem Context.evicted_attached (x : Context) : (x.evicted).attached = false := rfl
@[simp] theorem Context.evicted_core (x : Context) : (x.evicted).core = x.core := rfl
@[simp] theorem Context.evicted_slot (x : Context) : (x.evicted).slot = x.slot := rfl
@[simp] theorem Context.evicted_robRing (x : Context) : (x.evicted).robRing = x.robRing.clear := rfl
@[simp] theorem Context.evicted_rob (x : Context) : (x.evicted).rob = x.rob := rfl
@[simp] theorem Context.evicted_robGen (x : Context) : (x.evicted).robGen = x.robGen := rfl
@[simp] theorem Context.evicted_lsqRing (x : Context) : (x.evicted).lsqRing = x.lsqRing.clear := rfl
@[simp] theorem Context.evicted_lsq (x : Context) : (x.evicted).lsq = x.lsq := rfl
@[simp] theorem Context.evicted_lsqGen (x : Context) : (x.evicted).lsqGen = x.lsqGen := rfl
@[simp] theorem Context.evicted_ifqRing (x : Context) : (x.evicted).ifqRing = x.ifqRing.clear := rfl
@[simp] theorem Context.evicted_ifq (x : Context) : (x.evicted).ifq = x.ifq := rfl
@[simp] theorem Context.evicted_rename (x : Context) : (x.evicted).rename = x.rename := rfl
@[simp] theorem Context.evicted_wreg (x : Context) : (x.evicted).wreg = x.wreg := rfl
@[simp] theorem Context.evicted_icount (x : Context) : (x.evicted).icount = x.icount := rfl
@[simp] theorem Context.evicted_fetchPc (x : Context) : (x.evicted).fetchPc = (if 0 < x.ifqRing.num then (Table.get FetchRecord.blank x.ifq x.ifqRing.head).pc else x.fetchPc) := rfl
@[simp] theorem Context.evicted_fetchStallUntil (x : Context) : (x.evicted).fetchStallUntil = x.fetchStallUntil := rfl

/-! #### `Context.setEntry` -/

@[simp] theorem Context.setEntry_attached (x : Context) (b : Buf) (i : Nat) (e : Entry) : (x.setEntry b i e).attached = x.attached := by cases b <;> rfl
@[simp] theorem Context.setEntry_core (x : Context) (b : Buf) (i : Nat) (e : Entry) : (x.setEntry b i e).core = x.core := by cases b <;> rfl
@[simp] theorem Context.setEntry_slot (x : Context) (b : Buf) (i : Nat) (e : Entry) : (x.setEntry b i e).slot = x.slot := by cases b <;> rfl
@[simp] theorem Context.setEntry_robRing (x : Context) (b : Buf) (i : Nat) (e : Entry) : (x.setEntry b i e).robRing = x.robRing := by cases b <;> rfl
@[simp] theorem Context.setEntry_robGen (x : Context) (b : Buf) (i : Nat) (e : Entry) : (x.setEntry b i e).robGen = x.robGen := by cases b <;> rfl
@[simp] theorem Context.setEntry_lsqRing (x : Context) (b : Buf) (i : Nat) (e : Entry) : (x.setEntry b i e).lsqRing = x.lsqRing := by cases b <;> rfl
@[simp] theorem Context.setEntry_lsqGen (x : Context) (b : Buf) (i : Nat) (e : Entry) : (x.setEntry b i e).lsqGen = x.lsqGen := by cases b <;> rfl
@[simp] theorem Context.setEntry_ifqRing (x : Context) (b : Buf) (i : Nat) (e : Entry) : (x.setEntry b i e).ifqRing = x.ifqRing := by cases b <;> rfl
@[simp] theorem Context.setEntry_ifq (x : Context) (b : Buf) (i : Nat) (e : Entry) : (x.setEntry b i e).ifq = x.ifq := by cases b <;> rfl
@[simp] theorem Context.setEntry_rename (x : Context) (b : Buf) (i : Nat) (e : Entry) : (x.setEntry b i e).rename = x.rename := by cases b <;> rfl
@[simp] theorem Context.setEntry_wreg (x : Context) (b : Buf) (i : Nat) (e : Entry) : (x.setEntry b i e).wreg = x.wreg := by cases b <;> rfl
@[simp] theorem Context.setEntry_icount (x : Context) (b : Buf) (i : Nat) (e : Entry) : (x.setEntry b i e).icount = x.icount := by cases b <;> rfl
@[simp] theorem Context.setEntry_fetchPc (x : Context) (b : Buf) (i : Nat) (e : Entry) : (x.setEntry b i e).fetchPc = x.fetchPc := by cases b <;> rfl
@[simp] theorem Context.setEntry_fetchStallUntil (x : Context) (b : Buf) (i : Nat) (e : Entry) : (x.setEntry b i e).fetchStallUntil = x.fetchStallUntil := by cases b <;> rfl
@[simp] theorem Context.setEntry_rob_rob (x : Context) (i : Nat) (e : Entry) : (x.setEntry .rob i e).rob = Table.put x.rob i e := rfl
@[simp] theorem Context.setEntry_rob_lsq (x : Context) (i : Nat) (e : Entry) : (x.setEntry .rob i e).lsq = x.lsq := rfl
@[simp] theorem Context.setEntry_lsq_rob (x : Context) (i : Nat) (e : Entry) : (x.setEntry .lsq i e).rob = x.rob := rfl
@[simp] theorem Context.setEntry_lsq_lsq (x : Context) (i : Nat) (e : Entry) : (x.setEntry .lsq i e).lsq = Table.put x.lsq i e := rfl

/-! #### `Ring.pushTail` -/

@[simp] theorem Ring.pushTail_head (r : Ring) : r.pushTail.head = r.head := rfl
@[simp] theorem Ring.pushTail_tail (r : Ring) : r.pushTail.tail = (r.tail + 1) % r.cap := rfl
@[simp] theorem Ring.pushTail_num (r : Ring) : r.pushTail.num = r.num + 1 := rfl
@[simp] theorem Ring.pushTail_cap (r : Ring) : r.pushTail.cap = r.cap := rfl

/-! #### `Ring.popHead` -/

@[simp] theorem Ring.popHead_head (r : Ring) : r.popHead.head = (r.head + 1) % r.cap := rfl
@[simp] theorem Ring.popHead_tail (r : Ring) : r.popHead.tail = r.tail := rfl
@[simp] theorem Ring.popHead_num (r : Ring) : r.popHead.num = r.num - 1 := rfl
@[simp] theorem Ring.popHead_cap (r : Ring) : r.popHead.cap = r.cap := rfl

/-! #### `Ring.popTail` -/

@[simp] theorem Ring.popTail_head (r : Ring) : r.popTail.head = r.head := rfl
@[simp] theorem Ring.popTail_tail (r : Ring) : r.popTail.tail = r.last := rfl
@[simp] theorem Ring.popTail_num (r : Ring) : r.popTail.num = r.num - 1 := rfl
@[simp] theorem Ring.popTail_cap (r : Ring) : r.popTail.cap = r.cap := rfl

/-! #### `Ring.drain` -/

@[simp] theorem Ring.drain_head (r : Ring) : r.drain.head = r.tail := rfl
@[simp] theorem Ring.drain_tail (r : Ring) : r.drain.tail = r.tail := rfl
@[simp] theorem Ring.drain_num (r : Ring) : r.drain.num = 0 := rfl
@[simp] theorem Ring.drain_cap (r : Ring) : r.drain.cap = r.cap := rfl

/-! #### `Ring.clear` -/

@[simp] theorem Ring.clear_head (r : Ring) : r.clear.head = 0 := rfl
@[simp] theorem Ring.clear_tail (r : Ring) : r.clear.tail = 0 := rfl
@[simp] theorem Ring.clear_num (r : Ring) : r.clear.num = 0 := rfl
@[simp] theorem Ring.clear_cap (r : Ring) : r.clear.cap = r.cap := rfl

/-! #### accessors by buffer, bank and queue -/

@[simp] theorem Context.ring_rob (x : Context) : x.ring .rob = x.robRing := rfl
@[simp] theorem Context.ring_lsq (x : Context) : x.ring .lsq = x.lsqRing := rfl
@[simp] theorem Core.prf_int (x : Core) : x.prf .int = x.prfInt := rfl
@[simp] theorem Core.prf_fp (x : Core) : x.prf .fp = x.prfFp := rfl
@[simp] theorem Core.wq_waiting (x : Core) : x.wq .waiting = x.wqWaiting := rfl
@[simp] theorem Core.wq_issueExec (x : Core) : x.wq .issueExec = x.wqIssueExec := rfl
@[simp] theorem Core.wq_event (x : Core) : x.wq .event = x.wqEvent := rfl
@[simp] theorem Core.wq_ready (x : Core) : x.wq .ready = x.wqReady := rfl
@[simp] theorem Core.setSlot_prfInt (x : Core) (n : Nat) (v : Option Nat) : (x.setSlot n v).prfInt = x.prfInt := rfl
@[simp] theorem Core.setWq_prfInt (x : Core) (q : Queue) (l : List Membership) : (x.setWq q l).prfInt = x.prfInt := by cases q <;> rfl
@[simp] theorem Core.setSlot_prfFp (x : Core) (n : Nat) (v : Option Nat) : (x.setSlot n v).prfFp = x.prfFp := rfl
@[simp] theorem Core.setWq_prfFp (x : Core) (q : Queue) (l : List Membership) : (x.setWq q l).prfFp = x.prfFp := by cases q <;> rfl
@[simp] theorem Core.setReg_slots (x : Core) (b : Bank) (p : Nat) (r : PhysReg) : (x.setReg b p r).slots = x.slots := by cases b <;> rfl
@[simp] theorem Core.setWq_slots (x : Core) (q : Queue) (l : List Membership) : (x.setWq q l).slots = x.slots := by cases q <;> rfl
@[simp] theorem Core.setReg_iqCount (x : Core) (b : Bank) (p : Nat) (r : PhysReg) : (x.setReg b p r).iqCount = x.iqCount := by cases b <;> rfl
@[simp] theorem Core.setSlot_iqCount (x : Core) (n : Nat) (v : Option Nat) : (x.setSlot n v).iqCount = x.iqCount := rfl
@[simp] theorem Core.setWq_iqCount (x : Core) (q : Queue) (l : List Membership) : (x.setWq q l).iqCount = x.iqCount := by cases q <;> rfl
@[simp] theorem Core.setReg_wqWaiting (x : Core) (b : Bank) (p : Nat) (r : PhysReg) : (x.setReg b p r).wqWaiting = x.wqWaiting := by cases b <;> rfl
@[simp] theorem Core.setSlot_wqWaiting (x : Core) (n : Nat) (v : Option Nat) : (x.setSlot n v).wqWaiting = x.wqWaiting := rfl
@[simp] theorem Core.setReg_wqIssueExec (x : Core) (b : Bank) (p : Nat) (r : PhysReg) : (x.setReg b p r).wqIssueExec = x.wqIssueExec := by cases b <;> rfl
@[simp] theorem Core.setSlot_wqIssueExec (x : Core) (n : Nat) (v : Option Nat) : (x.setSlot n v).wqIssueExec = x.wqIssueExec := rfl
@[simp] theorem Core.setReg_wqEvent (x : Core) (b : Bank) (p : Nat) (r : PhysReg) : (x.setReg b p r).wqEvent = x.wqEvent := by cases b <;> rfl
@[simp] theorem Core.setSlot_wqEvent (x : Core) (n : Nat) (v : Option Nat) : (x.setSlot n v).wqEvent = x.wqEvent := rfl
@[simp] theorem Core.setReg_wqReady (x : Core) (b : Bank) (p : Nat) (r : PhysReg) : (x.setReg b p r).wqReady = x.wqReady := by cases b <;> rfl
@[simp] theorem Core.setSlot_wqReady (x : Core) (n : Nat) (v : Option Nat) : (x.setSlot n v).wqReady = x.wqReady := rfl
@[simp] theorem Core.setSlot_slots (x : Core) (n : Nat) (v : Option Nat) : (x.setSlot n v).slots = Table.put x.slots n v := rfl

end Sys2Proof.Machine
end

