-- ==== Sys2Proof/Laws/Table.lean ====
section
/-! SUPPORT. The laws of sparse tables, and through them of contexts, cores, registers, entries and memory bytes: a read after
a write to the same index gives the value written, and every other index reads as before. -/

namespace Sys2Proof.Machine

/-! ### Tables -/

theorem Table.find_put {α : Type} (t : Table α) (k : Nat) (v : α) (j : Nat) :
    Table.find (Table.put t k v) j = if j = k then some v else Table.find t j := by
  induction t with
  | nil => rfl
  | cons c t ih =>
    obtain ⟨a, w⟩ := c
    simp only [Table.put]
    split
    · simp only [Table.find]
    · split
      · subst_vars
        simp only [Table.find]
        split <;> rfl
      · simp only [Table.find, ih]
        split
        · subst_vars
          rw [if_neg (by omega)]
        · rfl

theorem Table.get_put {α : Type} (d : α) (t : Table α) (k : Nat) (v : α) (j : Nat) :
    Table.get d (Table.put t k v) j = if j = k then v else Table.get d t j := by
  simp only [Table.get, Table.find_put]
  split <;> rfl

@[simp] theorem Table.get_put_same {α : Type} (d : α) (t : Table α) (k : Nat) (v : α) :
    Table.get d (Table.put t k v) k = v := by simp [Table.get_put]

theorem Table.get_put_ne {α : Type} (d : α) (t : Table α) {k j : Nat} (v : α) (h : j ≠ k) :
    Table.get d (Table.put t k v) j = Table.get d t j := by simp [Table.get_put, h]

@[simp] theorem Table.get_nil {α : Type} (d : α) (k : Nat) : Table.get d [] k = d := rfl

/-- The least index of a table that is not empty. -/
theorem Table.rising_cons {α : Type} (a : Nat) (w : α) (t : Table α) :
    Table.rising ((a, w) :: t) = true ↔ (∀ c ∈ t, a < c.1) ∧ Table.rising t = true := by
  induction t generalizing a w with
  | nil => simp [Table.rising]
  | cons c t ih =>
    obtain ⟨b, v⟩ := c
    simp only [Table.rising, Bool.and_eq_true, decide_eq_true_eq, List.mem_cons, forall_eq_or_imp]
    constructor
    · rintro ⟨hab, hr⟩
      exact ⟨⟨hab, fun c hc => lt_trans hab (((ih b v).mp hr).1 c hc)⟩, hr⟩
    · rintro ⟨⟨hab, _⟩, hr⟩
      exact ⟨hab, hr⟩

theorem Table.mem_put {α : Type} (t : Table α) (k : Nat) (v : α) (c : Nat × α) (h : c ∈ Table.put t k v) :
    c = (k, v) ∨ c ∈ t := by
  induction t with
  | nil => simpa [Table.put] using h
  | cons d t ih =>
    obtain ⟨a, w⟩ := d
    simp only [Table.put] at h
    split at h
    · simpa using h
    · split at h
      · rcases List.mem_cons.mp h with h | h
        · exact .inl h
        · exact .inr (List.mem_cons_of_mem _ h)
      · rcases List.mem_cons.mp h with h | h
        · exact .inr (h ▸ List.mem_cons_self)
        · exact (ih h).imp id (List.mem_cons_of_mem _)

theorem Table.rising_put {α : Type} (t : Table α) (k : Nat) (v : α) (h : Table.rising t = true) :
    Table.rising (Table.put t k v) = true := by
  induction t with
  | nil => rfl
  | cons d t ih =>
    obtain ⟨a, w⟩ := d
    have ⟨ha, ht⟩ := (Table.rising_cons a w t).mp h
    simp only [Table.put]
    split
    · rename_i hk
      exact (Table.rising_cons k v _).mpr ⟨fun c hc => by
        rcases List.mem_cons.mp hc with hc | hc
        · exact hc ▸ hk
        · exact lt_trans hk (ha c hc), h⟩
    · split
      · subst_vars
        exact (Table.rising_cons _ v t).mpr ⟨ha, ht⟩
      · exact (Table.rising_cons a w _).mpr ⟨fun c hc => by
          rcases Table.mem_put t k v c hc with hc | hc
          · subst hc
            show a < k
            omega
          · exact ha c hc, ih ht⟩

/-! ### Contexts and cores -/

@[simp] theorem State.setCtx_ctx_same (s : State) (c : Nat) (x : Context) : (s.setCtx c x).ctx c = x :=
  Table.get_put_same _ _ _ _

theorem State.setCtx_ctx (s : State) (c : Nat) (x : Context) (j : Nat) :
    (s.setCtx c x).ctx j = if j = c then x else s.ctx j := Table.get_put _ _ _ _ _

@[simp] theorem State.updCtx_ctx_same (s : State) (c : Nat) (f : Context → Context) : (s.updCtx c f).ctx c = f (s.ctx c) :=
  Table.get_put_same _ _ _ _

theorem State.updCtx_ctx (s : State) (c : Nat) (f : Context → Context) (j : Nat) :
    (s.updCtx c f).ctx j = if j = c then f (s.ctx c) else s.ctx j := Table.get_put _ _ _ _ _

theorem State.updCtx_ctx_ne (s : State) {c j : Nat} (f : Context → Context) (h : j ≠ c) :
    (s.updCtx c f).ctx j = s.ctx j := Table.get_put_ne _ _ _ h

@[simp] theorem State.setCore_core_same (s : State) (k : Nat) (x : Core) : (s.setCore k x).core k = x :=
  Table.get_put_same _ _ _ _

@[simp] theorem State.updCore_core_same (s : State) (k : Nat) (f : Core → Core) : (s.updCore k f).core k = f (s.core k) :=
  Table.get_put_same _ _ _ _

theorem State.updCore_core (s : State) (k : Nat) (f : Core → Core) (j : Nat) :
    (s.updCore k f).core j = if j = k then f (s.core k) else s.core j := Table.get_put _ _ _ _ _

theorem State.updCore_core_ne (s : State) {k j : Nat} (f : Core → Core) (h : j ≠ k) :
    (s.updCore k f).core j = s.core j := Table.get_put_ne _ _ _ h

/-! ### Registers, entries, generations, slots, queues -/

theorem Core.prf_setReg (x : Core) (b b' : Bank) (p : Nat) (r : PhysReg) :
    (x.setReg b p r).prf b' = if b' = b then Table.put (x.prf b) p r else x.prf b' := by
  cases b <;> cases b' <;> rfl

/-- A register read after a register write. -/
theorem State.reg_setReg (s : State) (k : Nat) (b : Bank) (p : Nat) (r : PhysReg) (k' : Nat) (b' : Bank) (p' : Nat) :
    (s.setReg k b p r).reg k' b' p' = if k' = k ∧ b' = b ∧ p' = p then r else s.reg k' b' p' := by
  simp only [State.reg, State.setReg, State.updCore_core]
  by_cases hk : k' = k
  · subst hk
    simp only [if_true, Core.prf_setReg]
    by_cases hb : b' = b
    · subst hb
      simp [Table.get_put]
    · simp [hb]
  · simp [hk]

theorem State.reg_setRegState (s : State) (k : Nat) (b : Bank) (p : Nat) (st : RegState) (k' : Nat) (b' : Bank) (p' : Nat) :
    (s.setRegState k b p st).reg k' b' p'
      = if k' = k ∧ b' = b ∧ p' = p then { s.reg k b p with state := st } else s.reg k' b' p' :=
  State.reg_setReg _ _ _ _ _ _ _ _

@[simp] theorem State.reg_updCtx (s : State) (c : Nat) (f : Context → Context) (k : Nat) (b : Bank) (p : Nat) :
    (s.updCtx c f).reg k b p = s.reg k b p := rfl

theorem Context.entry_setEntry (x : Context) (b : Buf) (i : Nat) (e : Entry) (b' : Buf) (j : Nat) :
    (x.setEntry b i e).entry b' j = if b' = b ∧ j = i then e else x.entry b' j := by
  cases b <;> cases b' <;> simp [Context.entry, Context.setEntry, Table.get_put]

@[simp] theorem Context.gen_setEntry (x : Context) (b : Buf) (i : Nat) (e : Entry) (b' : Buf) (j : Nat) :
    (x.setEntry b i e).gen b' j = x.gen b' j := by cases b <;> cases b' <;> rfl

@[simp] theorem Context.ring_setEntry (x : Context) (b : Buf) (i : Nat) (e : Entry) (b' : Buf) :
    (x.setEntry b i e).ring b' = x.ring b' := by cases b <;> cases b' <;> rfl

theorem Core.slotOf_setSlot (x : Core) (n : Nat) (v : Option Nat) (j : Nat) :
    (x.setSlot n v).slotOf j = if j = n then v else x.slotOf j := Table.get_put _ _ _ _ _

theorem Core.wq_setWq (x : Core) (q q' : Queue) (l : List Membership) :
    (x.setWq q l).wq q' = if q' = q then l else x.wq q' := by cases q <;> cases q' <;> rfl

/-- `RemoveFromAllQueues` filters every queue of its core (41_queue_model.md R197). -/
theorem removeFromAllQueues_wq (k c : Nat) (b : Buf) (i : Nat) (s : State) (k' : Nat) (q : Queue) :
    ((removeFromAllQueues k c b i s).core k').wq q
      = if k' = k then dropEntry c b i ((s.core k).wq q) else (s.core k').wq q := by
  simp only [removeFromAllQueues, State.updCore_core]
  split
  · cases q <;> rfl
  · rfl

@[simp] theorem State.reg_removeFromAllQueues (s : State) (k c : Nat) (b : Buf) (i k' : Nat) (b' : Bank) (p : Nat) :
    (removeFromAllQueues k c b i s).reg k' b' p = s.reg k' b' p := by
  simp only [State.reg, removeFromAllQueues, State.updCore_core]
  split
  · subst_vars
    cases b' <;> rfl
  · rfl

end Sys2Proof.Machine
end

