-- ==== Sys2Proof/Laws/Memory.lean ====
section
/-! SUPPORT. The laws of the external memory: every operation keeps the canonical form, a read after a write gives the byte
written, and every other address reads as before. -/

namespace Sys2Proof.Machine

theorem Memory.wf_nil : Memory.wf [] = true := rfl

theorem Memory.wf_reset : State.reset.env.mem.wf = true := rfl

theorem Memory.wf_writeByte (m : Memory) (a : Word) (v : Byte) (h : m.wf = true) : (m.writeByte a.toNat v).wf = true := by
  simp only [Memory.wf, Bool.and_eq_true, List.all_eq_true, decide_eq_true_eq] at h ⊢
  refine ⟨Table.rising_put _ _ _ h.1, fun c hc => ?_⟩
  rcases Table.mem_put _ _ _ _ hc with rfl | hc
  · exact a.isLt
  · exact h.2 c hc

theorem Memory.wf_writeBytes (l : List Byte) : ∀ (m : Memory) (a : Word), m.wf = true → (m.writeBytes a l).wf = true := by
  induction l with
  | nil => exact fun _ _ h => h
  | cons v t ih => exact fun m a h => ih _ _ (Memory.wf_writeByte m a v h)

theorem Memory.wf_writeMasked (l : List Byte) :
    ∀ (m : Memory) (a : Word) (k : Nat), m.wf = true → (m.writeMasked a l k).wf = true := by
  induction l with
  | nil => exact fun _ _ _ h => h
  | cons v t ih =>
    intro m a k h
    apply ih
    split
    · exact Memory.wf_writeByte m a v h
    · exact h

/-- A replay keeps the memory's canonical form. -/
theorem Memory.wf_replayWrite (s : State) (a : Word) (n : BitVec 4) (d : Word) (h : s.env.mem.wf = true) :
    (replayWrite a n d s).env.mem.wf = true := by
  rw [State.replayWrite_env_mem]
  split
  · exact Memory.wf_writeMasked _ _ _ _ h
  · exact Memory.wf_writeBytes _ _ _ h

/-- A byte read after a byte write. -/
theorem Memory.read_writeByte (m : Memory) (a : Nat) (v : Byte) (a' : Nat) :
    (m.writeByte a v).read a' = if a' = a then some v else m.read a' := Table.find_put _ _ _ _

/-- An address outside the written bytes reads as before. -/
theorem Memory.read_writeBytes_outside (l : List Byte) : ∀ (m : Memory) (addr : Word) (a : Nat),
    (∀ k < l.length, a ≠ (addr + BitVec.ofNat 64 k).toNat) → (m.writeBytes addr l).read a = m.read a := by
  induction l with
  | nil => exact fun _ _ _ _ => rfl
  | cons v t ih =>
    intro m addr a h
    have h0 : a ≠ addr.toNat := by simpa using h 0 (by simp)
    rw [Memory.writeBytes, ih _ _ _ fun k hk => ?_, Memory.read_writeByte, if_neg h0]
    have := h (k + 1) (by simpa using hk)
    rwa [show addr + BitVec.ofNat 64 (k + 1) = addr + 1 + BitVec.ofNat 64 k by
      rw [BitVec.add_assoc, show (1 : Word) + BitVec.ofNat 64 k = BitVec.ofNat 64 (k + 1) by
        rw [Nat.add_comm k 1, BitVec.ofNat_add]
        rfl]] at this

end Sys2Proof.Machine
end

