-- ==== Sys2Proof/Laws/Ops.lean ====
section
/-! SUPPORT. For each shared operation, once, everything it can do: cited instead of unfolding it. -/

namespace Sys2Proof.Machine

/-! ### The common checks -/

theorem perform_latched (i : Instr) (s : State) (b : Ran) (h : s.latch.set = true) :
    perform i s b = .next (s.answer (.fatal s.latch.code)) := by simp [perform, h]

theorem perform_done (i : Instr) (s s' : State) (r : Response) (h : s.latch.set = false) :
    perform i s (.done s' r) = .next (s'.answer r) := by simp [perform, h]

theorem perform_fatal (i : Instr) (s s' : State) (d : Defect) (h : s.latch.set = false) :
    perform i s (.fatal s' d) = .next (s'.raiseFatal d i.header) := by simp [perform, h]

/-- Every command ends in a next state: an answer of the latch, a response, or a fatal defect. -/
theorem perform_cases (i : Instr) (s : State) (b : Ran) (t : State) (h : perform i s b = .next t) :
    (s.latch.set = true ∧ t = s.answer (.fatal s.latch.code))
      ∨ (s.latch.set = false ∧ ∃ s' r, b = .done s' r ∧ t = s'.answer r)
      ∨ (s.latch.set = false ∧ ∃ s' d, b = .fatal s' d ∧ t = s'.raiseFatal d i.header) := by
  unfold perform at h
  split at h
  · exact .inl ⟨‹_›, by cases h; rfl⟩
  · have hl : s.latch.set = false := eq_false_of_ne_true ‹_›
    cases b with
    | done s' r => exact .inr (.inl ⟨hl, s', r, rfl, by cases h; rfl⟩)
    | fatal s' d => exact .inr (.inr ⟨hl, s', d, rfl, by cases h; rfl⟩)

theorem perform_next (i : Instr) (s : State) (b : Ran) : ∃ t, perform i s b = .next t := by
  unfold perform
  split
  · exact ⟨_, rfl⟩
  · cases b <;> exact ⟨_, rfl⟩

/-- Every arm of `exec` but FATAL_STATUS is `perform` of a body. -/
theorem exec_eq_perform (i : Instr) (s : State) (hi : i ≠ .fatalStatus) : ∃ b, exec i s = perform i s b := by
  cases i <;> first
    | exact (hi rfl).elim
    | exact ⟨_, by simp only [exec,
      execNop, execDispatch, execMarkQueued, execIssue, execComplete, execCommit, execRollbackTo, execFlushContext,
      execAddContext, execEjectContext, execTransferContext, execFindFreePhysreg, execPrfSetReady, execPrfRead,
      execRenameRead, execWqInsert, execWqPop, execWqRemove, execIfqPush, execIfqPop, execWregRead, execWregWrite,
      execSetFetchPc, execEntryRead, execCtxStatus, execCoreStatus]; rfl⟩

theorem exec_next (i : Instr) (s : State) : ∃ t, exec i s = .next t := by
  by_cases hi : i = .fatalStatus
  · exact ⟨_, by rw [hi]; rfl⟩
  · obtain ⟨b, hb⟩ := exec_eq_perform i s hi
    exact hb ▸ perform_next i s b

theorem checkCtx_pass (c : BitVec 8) (s : State) (k : Ran) (h : c.toNat < s.cfg.numContexts) : checkCtx c s k = k := if_pos h
theorem checkCore_pass (c : BitVec 8) (s : State) (k : Ran) (h : c.toNat < s.cfg.numCores) : checkCore c s k = k := if_pos h
theorem checkAttached_pass (c : BitVec 8) (s : State) (k : Ran) (h : (s.ctx c.toNat).attached = true) :
    checkAttached c s k = k := if_pos h
theorem checkSlot_pass (c : BitVec 8) (b : Buf) (i : Word) (s : State) (k : Ran)
    (h : i.toNat < ((s.ctx c.toNat).ring b).cap) : checkSlot c b i s k = k := if_pos h
theorem checkQueueSlot_pass (i : Word) (s : State) (k : Ran) (h : i.toNat < s.cfg.maxCap) : checkQueueSlot i s k = k := if_pos h
theorem checkReg_pass (p : Word) (s : State) (k : Ran) (h : p.toNat < s.cfg.prfBankSize) : checkReg p s k = k := if_pos h
theorem checkArchreg_pass (a : Word) (s : State) (k : Ran) (h : a.toNat < 64) : checkArchreg a s k = k := if_pos h
theorem checkLive_pass (c : BitVec 8) (b : Buf) (i g : Word) (s : State) (k : Ran)
    (h : s.live c.toNat b i.toNat g.toNat = true) : checkLive c b i g s k = k := if_pos h

/-! ### Handles and registers -/

/-- `live(c, B, i, g)` in its four parts (10_state.md R43). -/
theorem State.live_iff (s : State) (c : Nat) (b : Buf) (i g : Nat) :
    s.live c b i g = true ↔ (s.ctx c).attached = true ∧ i < ((s.ctx c).ring b).cap
      ∧ ((s.ctx c).ring b).pos i < ((s.ctx c).ring b).num ∧ g = (s.ctx c).gen b i := by
  simp only [State.live, Ring.isLive, Bool.and_eq_true, decide_eq_true_eq]
  tauto

/-- The scan answers the lowest FREE index of the bank (40_dispatch_rename.md R151). -/
theorem State.findFree_some (s : State) (k : Nat) (b : Bank) (p : Nat) :
    s.findFree k b = some p ↔ p < s.cfg.prfBankSize ∧ s.isFree k b p = true ∧ ∀ q < p, s.isFree k b q = false := by
  rw [State.findFree, List.find?_range_eq_some]
  simp only [List.mem_range, Bool.not_eq_true']
  tauto

/-- The scan answers none exactly if the bank has no FREE register. -/
theorem State.findFree_none (s : State) (k : Nat) (b : Bank) :
    s.findFree k b = none ↔ ∀ p < s.cfg.prfBankSize, s.isFree k b p = false := by
  rw [State.findFree, List.find?_range_eq_none]
  simp only [Bool.not_eq_true']

/-- AllocPhysreg, where it succeeds (40_dispatch_rename.md R153). -/
theorem allocPhysreg_some (c a : Nat) (s s' : State) (p old : Nat) (h : allocPhysreg c a s = some (s', p, old)) :
    s.findFree (s.ctx c).core (bankOf a) = some p ∧ old = (s.ctx c).renameOf a
      ∧ s' = (s.setReg (s.ctx c).core (bankOf a) p (.allocated s.now)).updCtx c (fun x =>
          { x with rename := Table.put x.rename a p }) := by
  unfold allocPhysreg at h
  split at h
  · cases h
  · cases h
    exact ⟨‹_›, rfl, rfl⟩

/-- Giving up an issue-queue slot: nothing, or the slot of the entry and both counts. -/
theorem releaseIqSlot_cases (c : Nat) (b : Buf) (i : Nat) (s : State) :
    (((s.ctx c).entry b i).inIq = false ∧ releaseIqSlot c b i s = s)
      ∨ (((s.ctx c).entry b i).inIq = true ∧ releaseIqSlot c b i s
        = (s.updCore (s.ctx c).core (fun x => { x with iqCount := x.iqCount - 1 })).updCtx c (fun x =>
            { x.setEntry b i { x.entry b i with inIq := false } with icount := x.icount - 1 })) := by
  unfold releaseIqSlot
  split
  · exact .inr ⟨‹_›, rfl⟩
  · exact .inl ⟨eq_false_of_ne_true ‹_›, rfl⟩

/-! ### Commit -/

/-- The register step of COMMIT, where it succeeds (42_commit.md R230). -/
theorem commitReg_ok (k : Nat) (e : Entry) (s s' : State) (h : commitReg k e s = .ok s') :
    (e.physreg = none ∧ s' = s)
      ∨ ∃ p old, e.physreg = some p ∧ e.oldPhysreg = some old ∧ (s.reg k (bankOf e.archreg.toNat) p).state = .alloc
          ∧ (s.reg k (bankOf e.archreg.toNat) old).state = .architected
          ∧ s' = (s.setRegState k (bankOf e.archreg.toNat) p .architected).setRegState k (bankOf e.archreg.toNat) old .free := by
  unfold commitReg at h
  split at h
  · exact .inl ⟨‹_›, by cases h; rfl⟩
  · simp only at h
    split at h
    · cases h
    · split at h
      · cases h
        exact .inr ⟨_, _, ‹_›, ‹_›, (‹_ ∧ _›).1, (‹_ ∧ _›).2, rfl⟩
      · cases h

/-! ### Squash -/

/-- Squash step 1, where it succeeds (43_rollback.md R260). -/
theorem squashPartner_ok (c : Nat) (e : Entry) (s s' : State) (h : squashPartner c e s = .ok s') :
    (e.eaComp = false ∧ s' = s)
      ∨ (e.eaComp = true ∧ (s.ctx c).lsqRing.num ≠ 0
          ∧ ((s.ctx c).entry .lsq (s.ctx c).lsqRing.last).seq = e.seq
          ∧ (((s.ctx c).entry .lsq (s.ctx c).lsqRing.last).isStore = true → drawFaults s.nextDraw = false)
          ∧ s' = (removeFromAllQueues (s.ctx c).core c .lsq (s.ctx c).lsqRing.last
              (if ((s.ctx c).entry .lsq (s.ctx c).lsqRing.last).isStore then
                replayWrite ((s.ctx c).entry .lsq (s.ctx c).lsqRing.last).memAddr
                  ((s.ctx c).entry .lsq (s.ctx c).lsqRing.last).memSize
                  ((s.ctx c).entry .lsq (s.ctx c).lsqRing.last).shadowMem s
              else s)).updCtx c (fun y => { y with lsqRing := y.lsqRing.popTail })) := by
  unfold squashPartner at h
  split at h
  · rename_i he
    simp only at h
    split at h
    · cases h
    · split at h
      · cases h
      · split at h
        · cases h
        · rename_i h1 h2 h3
          cases h
          exact .inr ⟨he, h1, by simpa using h2, fun hs => by simpa [hs] using h3, rfl⟩
  · cases h
    exact .inl ⟨eq_false_of_ne_true ‹_›, rfl⟩

/-- Squash step 4, where it succeeds (43_rollback.md R260). -/
theorem restoreDest_ok (c : Nat) (e : Entry) (s s' : State) (h : restoreDest c e s = .ok s') :
    (e.physreg = none ∧ s' = s)
      ∨ ∃ p, e.physreg = some p ∧ (s.reg (s.ctx c).core (bankOf e.archreg.toNat) p).state = .alloc
          ∧ s' = (s.setRegState (s.ctx c).core (bankOf e.archreg.toNat) p .free).updCtx c (fun x =>
              { x with
                rename := match e.oldPhysreg with
                  | none => x.rename
                  | some old => Table.put x.rename e.archreg.toNat old
                wreg := Table.put x.wreg e.archreg.toNat e.shadowValue }) := by
  unfold restoreDest at h
  split at h
  · exact .inl ⟨‹_›, by cases h; rfl⟩
  · simp only at h
    split at h
    · cases h
      exact .inr ⟨_, ‹_›, ‹_›, rfl⟩
    · cases h

/-- `SquashEntry`, where it succeeds: steps 1, 2, 3, 4, 5 (43_rollback.md R260). -/
theorem squashEntry_ok (c : Nat) (s s' : State) (h : squashEntry c s = .ok s') :
    ∃ s1 s2, squashPartner c ((s.ctx c).entry .rob (s.ctx c).robRing.last) s = .ok s1
      ∧ restoreDest c ((s.ctx c).entry .rob (s.ctx c).robRing.last)
          (releaseIqSlot c .rob (s.ctx c).robRing.last
            (removeFromAllQueues (s.ctx c).core c .rob (s.ctx c).robRing.last s1)) = .ok s2
      ∧ s' = s2.updCtx c (fun y => { y with robRing := y.robRing.popTail }) := by
  unfold squashEntry at h
  simp only at h
  split at h
  · cases h
  · split at h
    · cases h
    · cases h
      exact ⟨_, _, ‹_›, ‹_›, rfl⟩

theorem squashMany_zero (c : Nat) (s : State) : squashMany c 0 s = .ok s := rfl

theorem squashMany_succ_ok (c n : Nat) (s s' : State) :
    squashMany c (n + 1) s = .ok s' ↔ ∃ s1, squashEntry c s = .ok s1 ∧ squashMany c n s1 = .ok s' := by
  rw [squashMany]
  cases squashEntry c s with
  | error r => simp
  | ok s1 => simp

/-- What every squash keeps, however many entries it undoes, is kept by each one. -/
theorem squashMany_induct (c : Nat) (P : State → Prop) (hstep : ∀ s s', P s → squashEntry c s = .ok s' → P s') :
    ∀ n s s', P s → squashMany c n s = .ok s' → P s' := by
  intro n
  induction n with
  | zero => intro s s' hp h; cases h; exact hp
  | succ n ih =>
    intro s s' hp h
    obtain ⟨s1, h1, h2⟩ := (squashMany_succ_ok c n s s').mp h
    exact ih s1 s' (hstep s s1 hp h1) h2

/-- The body of a flush, where it succeeds (43_rollback.md R263). -/
theorem flushBody_ok (c : Nat) (s s' : State) (h : flushBody c s = .ok s') :
    ∃ s1, squashMany c (s.ctx c).robRing.num s = .ok s1 ∧ (s1.ctx c).lsqRing.num = 0
      ∧ s' = flushFinish c (s.ctx c).robRing.num (flushPc (s.ctx c)) s1 := by
  unfold flushBody at h
  split at h
  · cases h
  · split at h
    · cases h
      exact ⟨_, ‹_›, ‹_›, rfl⟩
    · cases h

/-! ### Admission and eviction -/

/-- `Admit`, where it succeeds (44_context.md R290). -/
theorem admit_ok (c k : Nat) (s s' : State) (h : admitTo c k s = .ok s') :
    ∃ n, emptySlot k s = some n ∧ 32 ≤ s.freeCount k .int ∧ 32 ≤ s.freeCount k .fp
      ∧ s' = lease c k ((s.updCore k (fun x => x.setSlot n (some c))).updCtx c (fun x =>
          x.admitted k n (template s.cfg k n))) := by
  unfold admitTo at h
  split at h
  · cases h
  · split at h
    · cases h
    · exact ⟨_, ‹_›, by omega, by omega, (Except.ok.inj h).symm⟩

/-- A refused admission names its reason and changes nothing (44_context.md R290). -/
theorem admit_error (c k : Nat) (s : State) (r : RejectReason) (h : admitTo c k s = .error r) :
    (r = .coreFull ∧ emptySlot k s = none)
      ∨ (r = .leaseShort ∧ emptySlot k s ≠ none ∧ (s.freeCount k .int < 32 ∨ s.freeCount k .fp < 32)) := by
  unfold admitTo at h
  split at h
  · cases h
    exact .inl ⟨rfl, ‹_›⟩
  · split at h
    · cases h
      exact .inr ⟨rfl, by simp [*], ‹_›⟩
    · cases h

/-- `Evict`, where it succeeds (44_context.md R292). -/
theorem evict_ok (c : Nat) (s s' : State) (h : evict c s = .ok s') :
    evictDefect c s = none
      ∧ s' = ((returnRegs c s).updCore (s.ctx c).core (fun x => x.setSlot (s.ctx c).slot none)).updCtx c Context.evicted := by
  unfold evict at h
  split at h
  · cases h
  · cases h
    exact ⟨‹_›, rfl⟩

/-- The checks of an eviction all pass (44_context.md R292). -/
theorem evictDefect_none (c : Nat) (s : State) :
    evictDefect c s = none ↔ (s.ctx c).robRing.num = 0 ∧ (s.ctx c).icount = 0 ∧ (s.ctx c).lsqRing.num = 0
      ∧ ∀ a < 64, (s.reg (s.ctx c).core (bankOf a) ((s.ctx c).renameOf a)).state = .architected
          ∧ (s.reg (s.ctx c).core (bankOf a) ((s.ctx c).renameOf a)).readyCycle ≤ s.now
          ∧ (s.reg (s.ctx c).core (bankOf a) ((s.ctx c).renameOf a)).specReadyCycle ≤ s.now := by
  have hreg : ∀ a, returnDefect s c a = none ↔
      (s.reg (s.ctx c).core (bankOf a) ((s.ctx c).renameOf a)).state = .architected
          ∧ (s.reg (s.ctx c).core (bankOf a) ((s.ctx c).renameOf a)).readyCycle ≤ s.now
          ∧ (s.reg (s.ctx c).core (bankOf a) ((s.ctx c).renameOf a)).specReadyCycle ≤ s.now := by
    intro a
    simp only [returnDefect]
    split
    · simp [*]
    · split
      · rename_i h1 h2
        simp only [reduceCtorEq, false_iff, not_and, BitVec.not_le]
        intro _ h3
        rcases h2 with h2 | h2
        · exact absurd h2 (BitVec.not_lt.mpr h3)
        · exact h2
      · rename_i h1 h2
        simp only [not_or, BitVec.not_lt] at h2
        simp only [true_iff]
        exact ⟨by simpa using h1, h2.1, h2.2⟩
  simp only [evictDefect]
  split
  · rename_i h
    simp only [reduceCtorEq, false_iff]
    omega
  · split
    · rename_i h
      simp only [reduceCtorEq, false_iff]
      omega
    · rename_i h1 h2
      simp only [List.findSome?_eq_none_iff, List.mem_range, hreg]
      constructor
      · exact fun h => ⟨by omega, by omega, by omega, h⟩
      · exact fun h => h.2.2.2

/-! ### Steps -/

/-- What one step can be, by the input at the head of the port. -/
theorem step_command (s : State) (c : Command) (w : Word) (rest : List PortInput) (i : Instr)
    (hp : s.port = .command c w :: rest) (hd : decode c = .ok i) : step s = exec i (s.accept rest w) := by
  simp [step, hp, hd]

theorem step_rejected (s : State) (c : Command) (w : Word) (rest : List PortInput) (e : DecodeError)
    (hp : s.port = .command c w :: rest) (hd : decode c = .error e) : step s = .next (rejectHeader e (s.accept rest w)) := by
  simp [step, hp, hd]

theorem step_reset (s : State) (rest : List PortInput) (hp : s.port = .reset :: rest) :
    step s = .next { s.engineReset with port := rest } := by simp [step, hp]

theorem step_executorStore (s : State) (a : Word) (l : List Byte) (rest : List PortInput)
    (hp : s.port = .executorStore a l :: rest) : step s = .next { executorStore a l s with port := rest } := by
  simp [step, hp]

theorem step_idle (s : State) (hp : s.port = []) : step s = .next s := by simp [step, hp]

/-- Every step is one of: idle, a command, a header that is no command, the reset input, a write of the executor. -/
theorem step_cases (s t : State) (h : step s = .next t) :
    (s.port = [] ∧ t = s)
      ∨ (∃ c w rest i, s.port = .command c w :: rest ∧ decode c = .ok i ∧ exec i (s.accept rest w) = .next t)
      ∨ (∃ c w rest e, s.port = .command c w :: rest ∧ decode c = .error e ∧ t = rejectHeader e (s.accept rest w))
      ∨ (∃ rest, s.port = .reset :: rest ∧ t = { s.engineReset with port := rest })
      ∨ (∃ a l rest, s.port = .executorStore a l :: rest ∧ t = { executorStore a l s with port := rest }) := by
  unfold step at h
  split at h
  · exact .inl ⟨‹_›, by cases h; rfl⟩
  · split at h
    · exact .inr (.inl ⟨_, _, _, _, ‹_›, ‹_›, h⟩)
    · exact .inr (.inr (.inl ⟨_, _, _, _, ‹_›, ‹_›, by cases h; rfl⟩))
  · exact .inr (.inr (.inr (.inl ⟨_, ‹_›, by cases h; rfl⟩)))
  · exact .inr (.inr (.inr (.inr ⟨_, _, _, ‹_›, by cases h; rfl⟩)))

end Sys2Proof.Machine
end

