-- ==== Sys2Proof/Laws/PerInstr.lean ====
section
/-! SUPPORT. Statements about every command, made per constructor: the header of each command belongs to its row of the opcode
map (30_encoding.md R113). -/

namespace Sys2Proof

theorem op_alone : ∀ o : BitVec 6,
    ((0 : BitVec 8) ++ (0 : BitVec 8) ++ ((0 : BitVec 7) &&& 127) ++ (0 : BitVec 1) ++ (0 : BitVec 2) ++ (o &&& 63)
      : BitVec (8 + 8 + 7 + 1 + 2 + 6)) = o.setWidth 32 := by decide

/-- A header all of whose fields but `OP` a mask selects only where they are 0. -/
theorem headerOf_matches {k c k' c' : BitVec 8} {b b' : BitVec 1} {q q' : BitVec 2} (o : BitVec 6) (mask : Header)
    (hm : mask = k' ++ c' ++ (127 : BitVec 7) ++ b' ++ q' ++ (63 : BitVec 6))
    (hk : k &&& k' = 0) (hc : c &&& c' = 0) (hb : b &&& b' = 0) (hq : q &&& q' = 0) :
    headerOf k c b q o &&& mask = o.setWidth 32 := by
  have h : (k ++ c ++ (0 : BitVec 7) ++ b ++ q ++ o : BitVec (8 + 8 + 7 + 1 + 2 + 6))
      &&& (k' ++ c' ++ (127 : BitVec 7) ++ b' ++ q' ++ (63 : BitVec 6))
      = (k &&& k') ++ (c &&& c') ++ ((0 : BitVec 7) &&& 127) ++ (b &&& b') ++ (q &&& q') ++ (o &&& 63) := by
    simp only [BitVec.and_append]
  rw [hk, hc, hb, hq] at h
  subst hm
  exact h.trans (op_alone o)

end Sys2Proof

namespace Sys2Proof.Laws.RowMatch

/-- The header of a command is `match` under the row's `mask` (30_encoding.md R113). -/
def Statement (i : Instr) : Prop := i.header &&& i.row.mask = i.row.bits

theorem nop : Statement .nop := by
  rfl

theorem dispatch (c : BitVec 8) (p : DispatchWords) : Statement (.dispatch c p) := by
  exact headerOf_matches (k' := 255) (c' := 0) (b' := 1) (q' := 3) 0x01 0xFF00FFFF (by decide)
    BitVec.zero_and BitVec.and_zero BitVec.zero_and BitVec.zero_and

theorem markQueued (c : BitVec 8) (b : Buf) (i : Word) (g : Word) : Statement (.markQueued c b i g) := by
  exact headerOf_matches (k' := 255) (c' := 0) (b' := 0) (q' := 3) 0x02 0xFF00FEFF (by decide)
    BitVec.zero_and BitVec.and_zero BitVec.and_zero BitVec.zero_and

theorem issue (c : BitVec 8) (b : Buf) (i : Word) (g : Word) : Statement (.issue c b i g) := by
  exact headerOf_matches (k' := 255) (c' := 0) (b' := 0) (q' := 3) 0x03 0xFF00FEFF (by decide)
    BitVec.zero_and BitVec.and_zero BitVec.and_zero BitVec.zero_and

theorem complete (c : BitVec 8) (b : Buf) (i : Word) (g : Word) : Statement (.complete c b i g) := by
  exact headerOf_matches (k' := 255) (c' := 0) (b' := 0) (q' := 3) 0x04 0xFF00FEFF (by decide)
    BitVec.zero_and BitVec.and_zero BitVec.and_zero BitVec.zero_and

theorem commit (c : BitVec 8) : Statement (.commit c) := by
  exact headerOf_matches (k' := 255) (c' := 0) (b' := 1) (q' := 3) 0x05 0xFF00FFFF (by decide)
    BitVec.zero_and BitVec.and_zero BitVec.zero_and BitVec.zero_and

theorem rollbackTo (c : BitVec 8) (m : Bool) (i : Word) (g : Word) : Statement (.rollbackTo c m i g) := by
  exact headerOf_matches (k' := 255) (c' := 0) (b' := 0) (q' := 3) 0x06 0xFF00FEFF (by decide)
    BitVec.zero_and BitVec.and_zero BitVec.and_zero BitVec.zero_and

theorem flushContext (c : BitVec 8) : Statement (.flushContext c) := by
  exact headerOf_matches (k' := 255) (c' := 0) (b' := 1) (q' := 3) 0x07 0xFF00FFFF (by decide)
    BitVec.zero_and BitVec.and_zero BitVec.zero_and BitVec.zero_and

theorem addContext (c : BitVec 8) (k : BitVec 8) : Statement (.addContext c k) := by
  exact headerOf_matches (k' := 0) (c' := 0) (b' := 1) (q' := 3) 0x08 0x0000FFFF (by decide)
    BitVec.and_zero BitVec.and_zero BitVec.zero_and BitVec.zero_and

theorem ejectContext (c : BitVec 8) : Statement (.ejectContext c) := by
  exact headerOf_matches (k' := 255) (c' := 0) (b' := 1) (q' := 3) 0x09 0xFF00FFFF (by decide)
    BitVec.zero_and BitVec.and_zero BitVec.zero_and BitVec.zero_and

theorem transferContext (c : BitVec 8) (k : BitVec 8) : Statement (.transferContext c k) := by
  exact headerOf_matches (k' := 0) (c' := 0) (b' := 1) (q' := 3) 0x0A 0x0000FFFF (by decide)
    BitVec.and_zero BitVec.and_zero BitVec.zero_and BitVec.zero_and

theorem findFreePhysreg (k : BitVec 8) (q : BitVec 2) : Statement (.findFreePhysreg k q) := by
  exact headerOf_matches (k' := 0) (c' := 255) (b' := 1) (q' := 0) 0x0B 0x00FFFF3F (by decide)
    BitVec.and_zero BitVec.zero_and BitVec.zero_and BitVec.and_zero

theorem prfSetReady (k : BitVec 8) (q : BitVec 2) (p : Word) (r : Word) (t : Word) : Statement (.prfSetReady k q p r t) := by
  exact headerOf_matches (k' := 0) (c' := 255) (b' := 1) (q' := 0) 0x0C 0x00FFFF3F (by decide)
    BitVec.and_zero BitVec.zero_and BitVec.zero_and BitVec.and_zero

theorem prfRead (k : BitVec 8) (q : BitVec 2) (p : Word) : Statement (.prfRead k q p) := by
  exact headerOf_matches (k' := 0) (c' := 255) (b' := 1) (q' := 0) 0x0D 0x00FFFF3F (by decide)
    BitVec.and_zero BitVec.zero_and BitVec.zero_and BitVec.and_zero

theorem renameRead (c : BitVec 8) (a : Word) : Statement (.renameRead c a) := by
  exact headerOf_matches (k' := 255) (c' := 0) (b' := 1) (q' := 3) 0x0E 0xFF00FFFF (by decide)
    BitVec.zero_and BitVec.and_zero BitVec.zero_and BitVec.zero_and

theorem wqInsert (k : BitVec 8) (c : BitVec 8) (q : Queue) (b : Buf) (i : Word) (g : Word) (t : Word) : Statement (.wqInsert k c q b i g t) := by
  exact headerOf_matches (k' := 0) (c' := 0) (b' := 0) (q' := 0) 0x0F 0x0000FE3F (by decide)
    BitVec.and_zero BitVec.and_zero BitVec.and_zero BitVec.and_zero

theorem wqPop (k : BitVec 8) (q : Queue) : Statement (.wqPop k q) := by
  exact headerOf_matches (k' := 0) (c' := 255) (b' := 1) (q' := 0) 0x10 0x00FFFF3F (by decide)
    BitVec.and_zero BitVec.zero_and BitVec.zero_and BitVec.and_zero

theorem wqRemove (k : BitVec 8) (c : BitVec 8) (q : Queue) (b : Buf) (i : Word) (g : Word) : Statement (.wqRemove k c q b i g) := by
  exact headerOf_matches (k' := 0) (c' := 0) (b' := 0) (q' := 0) 0x11 0x0000FE3F (by decide)
    BitVec.and_zero BitVec.and_zero BitVec.and_zero BitVec.and_zero

theorem ifqPush (c : BitVec 8) (p : Word) (w : Word) : Statement (.ifqPush c p w) := by
  exact headerOf_matches (k' := 255) (c' := 0) (b' := 1) (q' := 3) 0x12 0xFF00FFFF (by decide)
    BitVec.zero_and BitVec.and_zero BitVec.zero_and BitVec.zero_and

theorem ifqPop (c : BitVec 8) : Statement (.ifqPop c) := by
  exact headerOf_matches (k' := 255) (c' := 0) (b' := 1) (q' := 3) 0x13 0xFF00FFFF (by decide)
    BitVec.zero_and BitVec.and_zero BitVec.zero_and BitVec.zero_and

theorem wregRead (c : BitVec 8) (a : Word) : Statement (.wregRead c a) := by
  exact headerOf_matches (k' := 255) (c' := 0) (b' := 1) (q' := 3) 0x14 0xFF00FFFF (by decide)
    BitVec.zero_and BitVec.and_zero BitVec.zero_and BitVec.zero_and

theorem wregWrite (c : BitVec 8) (a : Word) (v : Word) : Statement (.wregWrite c a v) := by
  exact headerOf_matches (k' := 255) (c' := 0) (b' := 1) (q' := 3) 0x15 0xFF00FFFF (by decide)
    BitVec.zero_and BitVec.and_zero BitVec.zero_and BitVec.zero_and

theorem setFetchPc (c : BitVec 8) (p : Word) : Statement (.setFetchPc c p) := by
  exact headerOf_matches (k' := 255) (c' := 0) (b' := 1) (q' := 3) 0x16 0xFF00FFFF (by decide)
    BitVec.zero_and BitVec.and_zero BitVec.zero_and BitVec.zero_and

theorem entryRead (c : BitVec 8) (b : Buf) (i : Word) : Statement (.entryRead c b i) := by
  exact headerOf_matches (k' := 255) (c' := 0) (b' := 0) (q' := 3) 0x17 0xFF00FEFF (by decide)
    BitVec.zero_and BitVec.and_zero BitVec.and_zero BitVec.zero_and

theorem ctxStatus (c : BitVec 8) : Statement (.ctxStatus c) := by
  exact headerOf_matches (k' := 255) (c' := 0) (b' := 1) (q' := 3) 0x18 0xFF00FFFF (by decide)
    BitVec.zero_and BitVec.and_zero BitVec.zero_and BitVec.zero_and

theorem coreStatus (k : BitVec 8) : Statement (.coreStatus k) := by
  exact headerOf_matches (k' := 0) (c' := 255) (b' := 1) (q' := 3) 0x19 0x00FFFFFF (by decide)
    BitVec.and_zero BitVec.zero_and BitVec.zero_and BitVec.zero_and

theorem fatalStatus : Statement .fatalStatus := by
  rfl

end Sys2Proof.Laws.RowMatch
end

