-- ==== Sys2Proof/WellFormed.lean ====
section
/-! DEFINITION. The checks on a command's operands that no configuration of the engine can make pass: a bank number is 0 or 1
(30_encoding.md R112), an architected register word is below 64 (R116). An ill-formed command still has an encoding, and
the engine answers it ILLEGAL. -/

namespace Sys2Proof

/-- Whether the command's bank and architected-register operands are in range (30_encoding.md R112, R116). The `archreg`
word of DISPATCH is not checked here: the engine ignores it for an opcode without a destination. -/
def Instr.wellFormed : Instr → Bool
  | .nop => true
  | .dispatch _ _ => true
  | .markQueued _ _ _ _ => true
  | .issue _ _ _ _ => true
  | .complete _ _ _ _ => true
  | .commit _ => true
  | .rollbackTo _ _ _ _ => true
  | .flushContext _ => true
  | .addContext _ _ => true
  | .ejectContext _ => true
  | .transferContext _ _ => true
  | .findFreePhysreg _ q => decide (q.toNat < 2)
  | .prfSetReady _ q _ _ _ => decide (q.toNat < 2)
  | .prfRead _ q _ => decide (q.toNat < 2)
  | .renameRead _ a => decide (a.toNat < 64)
  | .wqInsert _ _ _ _ _ _ _ => true
  | .wqPop _ _ => true
  | .wqRemove _ _ _ _ _ _ => true
  | .ifqPush _ _ _ => true
  | .ifqPop _ => true
  | .wregRead _ a => decide (a.toNat < 64)
  | .wregWrite _ a _ => decide (a.toNat < 64)
  | .setFetchPc _ _ => true
  | .entryRead _ _ _ => true
  | .ctxStatus _ => true
  | .coreStatus _ => true
  | .fatalStatus => true

end Sys2Proof
end

