-- ==== Sys2Proof/Tests/Slice0.lean ====
section
/-! SUPPORT. Tests: ill-formed commands refused, every command's word written out from the spec's encoding, results from the
spec's own examples, and for each statement a concrete state that meets its hypotheses. -/

namespace Sys2Proof.Tests

open Sys2Proof Sys2Proof.Machine Sys2Proof.Safety

set_option Elab.async false

/-! ### Well-formedness -/

theorem test_bank_two_is_ill_formed : Instr.wellFormed (.findFreePhysreg 0 2) = false := rfl
theorem test_bank_two_set_ready_is_ill_formed : Instr.wellFormed (.prfSetReady 0 2 0 0 0) = false := rfl
theorem test_bank_three_read_is_ill_formed : Instr.wellFormed (.prfRead 0 3 0) = false := rfl
theorem test_archreg_64_rename_is_ill_formed : Instr.wellFormed (.renameRead 0 64) = false := rfl
theorem test_archreg_64_read_is_ill_formed : Instr.wellFormed (.wregRead 0 64) = false := rfl
theorem test_archreg_64_write_is_ill_formed : Instr.wellFormed (.wregWrite 0 64 0) = false := rfl
theorem test_archreg_63_is_well_formed : Instr.wellFormed (.wregWrite 0 63 0) = true := rfl

/-! ### Decoding: words written out bit by bit from 30_encoding.md R111 and R113 (`KKKKKKKK XXXXXXXX 0000000B QQOOOOOO`) -/

/-- Ten distinct payload words. -/
def lanes : Payload := ⟨100, 101, 102, 103, 104, 105, 106, 107, 108, 109⟩

theorem test_decode_nop : decode ⟨0b00000000000000000000000000000000, lanes⟩ = .ok .nop := by decide
theorem test_decode_dispatch : decode ⟨0b00000000000000100000000000000001, lanes⟩
    = .ok (.dispatch 2 ⟨100, 101, 102, 103, 104, 105, 106, 107, 108, 109⟩) := by decide
theorem test_decode_markQueued : decode ⟨0b00000000000000110000000100000010, lanes⟩
    = .ok (.markQueued 3 .lsq 100 101) := by decide
theorem test_decode_issue : decode ⟨0b00000000000000010000000000000011, lanes⟩
    = .ok (.issue 1 .rob 100 101) := by decide
theorem test_decode_complete : decode ⟨0b00000000000000010000000100000100, lanes⟩
    = .ok (.complete 1 .lsq 100 101) := by decide
theorem test_decode_commit : decode ⟨0b00000000111111110000000000000101, lanes⟩ = .ok (.commit 255) := by decide
theorem test_decode_rollbackTo : decode ⟨0b00000000000000000000000100000110, lanes⟩
    = .ok (.rollbackTo 0 true 100 101) := by decide
theorem test_decode_flushContext : decode ⟨0b00000000000000100000000000000111, lanes⟩
    = .ok (.flushContext 2) := by decide
theorem test_decode_addContext : decode ⟨0b00000001000000110000000000001000, lanes⟩
    = .ok (.addContext 3 1) := by decide
theorem test_decode_ejectContext : decode ⟨0b00000000000000010000000000001001, lanes⟩
    = .ok (.ejectContext 1) := by decide
theorem test_decode_transferContext : decode ⟨0b00000001000000100000000000001010, lanes⟩
    = .ok (.transferContext 2 1) := by decide
theorem test_decode_findFreePhysreg : decode ⟨0b00000001000000000000000001001011, lanes⟩
    = .ok (.findFreePhysreg 1 1) := by decide
theorem test_decode_prfSetReady : decode ⟨0b00000001000000000000000010001100, lanes⟩
    = .ok (.prfSetReady 1 2 100 101 102) := by decide
theorem test_decode_prfRead : decode ⟨0b00000000000000000000000001001101, lanes⟩
    = .ok (.prfRead 0 1 100) := by decide
theorem test_decode_renameRead : decode ⟨0b00000000000000010000000000001110, lanes⟩
    = .ok (.renameRead 1 100) := by decide
theorem test_decode_wqInsert : decode ⟨0b00000001000000100000000111001111, lanes⟩
    = .ok (.wqInsert 1 2 .ready .lsq 100 101 102) := by decide
theorem test_decode_wqPop : decode ⟨0b00000001000000000000000010010000, lanes⟩ = .ok (.wqPop 1 .event) := by decide
theorem test_decode_wqRemove : decode ⟨0b00000001000000100000000001010001, lanes⟩
    = .ok (.wqRemove 1 2 .issueExec .rob 100 101) := by decide
theorem test_decode_ifqPush : decode ⟨0b00000000000000010000000000010010, lanes⟩
    = .ok (.ifqPush 1 100 101) := by decide
theorem test_decode_ifqPop : decode ⟨0b00000000000000010000000000010011, lanes⟩ = .ok (.ifqPop 1) := by decide
theorem test_decode_wregRead : decode ⟨0b00000000000000010000000000010100, lanes⟩
    = .ok (.wregRead 1 100) := by decide
theorem test_decode_wregWrite : decode ⟨0b00000000000000010000000000010101, lanes⟩
    = .ok (.wregWrite 1 100 101) := by decide
theorem test_decode_setFetchPc : decode ⟨0b00000000000000010000000000010110, lanes⟩
    = .ok (.setFetchPc 1 100) := by decide
theorem test_decode_entryRead : decode ⟨0b00000000000000010000000100010111, lanes⟩
    = .ok (.entryRead 1 .lsq 100) := by decide
theorem test_decode_ctxStatus : decode ⟨0b00000000000000010000000000011000, lanes⟩ = .ok (.ctxStatus 1) := by decide
theorem test_decode_coreStatus : decode ⟨0b00000010000000000000000000011001, lanes⟩ = .ok (.coreStatus 2) := by decide
theorem test_decode_fatalStatus : decode ⟨0b00000000000000000000000000011010, lanes⟩ = .ok .fatalStatus := by decide

/-- An unassigned `OP` (30_encoding.md R114). -/
theorem test_decode_unassigned : decode ⟨0x0000001B, lanes⟩ = .error .badOpcode := by decide

/-- A reserved bit (30_encoding.md R112). -/
theorem test_decode_reserved_bit : decode ⟨0x00000205, lanes⟩ = .error .reservedBits := by decide

/-- A `CORE` field in a command that does not use it (30_encoding.md R112). -/
theorem test_decode_unused_core : decode ⟨0x01000005, lanes⟩ = .error .reservedBits := by decide

/-! ### States for the tests -/

/-- A small configuration: two cores of one slot, two contexts, 34 registers in a bank, an INT-destination opcode 0x10, a load
0x20 and a store 0x21 (as in 95_test_vectors.md section 0). -/
def cfg : Config.Params where
  numCores := 2
  numContexts := 2
  maxContexts := 1
  prfBankSize := 34
  maxCap := 2
  slotCfg := [[⟨2, 2, 2, 7⟩], [⟨2, 1, 2, 8⟩]]
  iqCap := [2, 2]
  mispredPenalty := 3
  penaltyOnAllRollbacks := false
  classTable := [(0x10, ⟨.int, .int, .int, false, false⟩), (0x20, ⟨.int, .none, .int, true, false⟩),
    (0x21, ⟨.int, .int, .none, false, true⟩)]
  classDefault := ⟨.none, .none, .none, false, false⟩

/-- Thirty-two committed registers, the rest FREE. -/
def leasedBank : Table PhysReg := (List.range 32).map (fun p => (p, ⟨.architected, 0, 0, 0⟩))

/-- A context attached to slot 0 of core `k` with the capacities of that slot and the mapping of its admission. -/
def freshCtx (k lsqCap : Nat) : Context :=
  { Context.reset with
    attached := true
    core := k
    robRing := ⟨0, 0, 0, 2⟩
    lsqRing := ⟨0, 0, 0, lsqCap⟩
    ifqRing := ⟨0, 0, 0, 2⟩
    rename := (List.range 64).map (fun a => (a, a % 32)) }

/-- A core whose slot 0 holds context `c`. -/
def freshCore (c : Nat) : Core := { Core.reset with prfInt := leasedBank, prfFp := leasedBank, slots := [(0, some c)] }

/-- Context 0 attached to core 0, nothing in flight, memory accepting four replays. -/
def ready : State :=
  { State.resetWith cfg with
    eng := ⟨[(0, freshCore 0)], [(0, freshCtx 0 2)], 0⟩
    env := { Environment.start with mem := [(8, 0xAA)], draws := [0, 0, 0, 0] }
    now := 5 }

/-- Contexts 0 and 1 attached to cores 0 and 1. -/
def both : State := { ready with eng := ⟨[(0, freshCore 0), (1, freshCore 1)], [(0, freshCtx 0 2), (1, freshCtx 1 1)], 0⟩ }

/-- The state a command ends in. -/
def after (s : State) (i : Instr) : State :=
  match exec i s with
  | .next t => t
  | .fault _ => s
  | .refused _ => s

/-- The words of an add to r1, and of a one-byte store to address 8 whose shadow is what `ready` holds there. -/
def addWords : DispatchWords := ⟨0x10, 0x1000, 0x1004, 0x1004, 1, 0, 7, 0, 0, 0⟩
def storeWords : DispatchWords := ⟨0x21, 0x1004, 0x1008, 0x1008, 0, 0, 0, 8, 1, 0xAA⟩

/-- The entries those leave in the ROB and the LSQ: the add with register 32 and its displaced mapping 1, the store. -/
def addEntry : Entry :=
  { Entry.blank with
    opcode := 0x10, pc := 0x1000, nextPc := 0x1004, predPc := 0x1004, physreg := some 32, oldPhysreg := some 1
    archreg := 1, destFormat := .int, shadowValue := 7, dispatched := true, inIq := true }
def storeEntry : Entry :=
  { Entry.blank with
    seq := 1, opcode := 0x21, pc := 0x1004, nextPc := 0x1008, predPc := 0x1008, eaComp := true, isStore := true
    dispatched := true, inIq := true }
def storeMem : Entry :=
  { Entry.blank with
    seq := 1, opcode := 0x21, pc := 0x1004, nextPc := 0x1008, predPc := 0x1008, isStore := true, memAddr := 8
    memSize := 1, shadowMem := 0xAA, dispatched := true }

/-- An entry moved along its states. -/
def asQueued (e : Entry) : Entry := { e with queued := true }
def asIssued (e : Entry) : Entry := { e with queued := true, issued := true, inIq := false }
def asCompleted (e : Entry) : Entry := { e with queued := true, issued := true, inIq := false, completed := true }

/-- Context 0 with the given ROB and LSQ entries in flight from slot 0 on, `iq` of them holding issue-queue slots; r1 is mapped
to register 32, which is ALLOC. -/
def inFlight (rob lsq : List Entry) (iq : Nat) : State :=
  { ready with
    eng :=
      ⟨[(0, { freshCore 0 with prfInt := leasedBank ++ [(32, ⟨.alloc, notReady, notReady, 5⟩)], iqCount := iq })],
        [(0, { freshCtx 0 2 with
          robRing := ⟨0, rob.length % 2, rob.length, 2⟩
          rob := rob.zipIdx.map (fun v => (v.2, v.1))
          robGen := [(0, 1), (1, 1)]
          lsqRing := ⟨0, lsq.length % 2, lsq.length, 2⟩
          lsq := lsq.zipIdx.map (fun v => (v.2, v.1))
          lsqGen := [(0, 1)]
          rename := (List.range 64).map (fun a => (a, if a = 1 then 32 else a % 32))
          icount := iq })], 2⟩ }

/-- The add in flight; the add and the store in flight (ROB full, issue queue full). -/
def oneIn : State := inFlight [addEntry] [] 1
def twoIn : State := inFlight [addEntry, storeEntry] [storeMem] 2

/-- The add queued, issued, completed. -/
def queued : State := inFlight [asQueued addEntry] [] 1
def issued : State := inFlight [asIssued addEntry] [] 0
def completed : State := inFlight [asCompleted addEntry] [] 0

/-- The store alone: its ROB half completed and its LSQ half not, then both. -/
def storeHalf : State := inFlight [asCompleted storeEntry] [storeMem] 0
def storeWhole : State := inFlight [asCompleted storeEntry] [asCompleted storeMem] 0

/-- The add in flight and in the waiting queue with wake cycle 15. -/
def waiting : State := oneIn.setWq 0 .waiting [⟨0, .rob, 0, 1, 15⟩]

/-- A latched state. -/
def latched : State := { queued with latch := ⟨true, 7, 0x00000002, 9⟩ }

/-- A state with one input pending. -/
def withInput (s : State) (i : PortInput) : State := { s with port := [i] }

/-- A command as the next input. -/
def feed (s : State) (i : Instr) (now : Word) : State := withInput s (.command (encode i) now)

/-! ### Results the spec states -/

/-- 40_dispatch_rename.md R154, example: ROB slot 0, generation 1, no LSQ slot, seq 0, the lowest FREE register, and r1's
mapping 1. -/
theorem test_dispatch_example : (after ready (.dispatch 0 addWords)).response = some (.ok [0, 1, minusOne, 0, 0, 32, 1]) := by decide +kernel

/-- 45_frontend_query.md R326, example: d0 = 1, d1 = 1, d10 = 0x221. -/
theorem test_entryRead_example : ((after oneIn (.entryRead 0 .rob 0)).response.map (fun r => (r.data[0]?, r.data[1]?, r.data[10]?)))
    = some (some 1, some 1, some 0x221) := by decide +kernel

/-- 40_dispatch_rename.md R154: the store's seven words (no register; LSQ slot 0, generation 1). -/
theorem test_dispatch_store : (after ready (.dispatch 0 storeWords)).response = some (.ok [0, 1, 0, 1, 0, minusOne, minusOne]) := by decide +kernel

/-- 40_dispatch_rename.md R154: a full ROB is reported before a full issue queue. -/
theorem test_dispatch_rob_full_first :
    (after twoIn (.dispatch 0 addWords)).response = some (.stall .robFull) := by decide +kernel

/-- 40_dispatch_rename.md R152, example: after reset the lowest FREE register is 0. -/
theorem test_findFree_after_reset : (after State.reset (.findFreePhysreg 0 1)).response = some (.ok [0]) := by
  decide +kernel

/-- 40_dispatch_rename.md R157, example: `ready_cycle` 9, `speculative_ready_cycle` 8 of register 32. -/
theorem test_prfSetReady_example :
    (after oneIn (.prfSetReady 0 0 32 9 8)).reg 0 .int 32 = ⟨.alloc, 9, 8, 5⟩ := by decide +kernel

/-- 40_dispatch_rename.md R158, example: after reset register 5 reads 0, 0, 0, 0. -/
theorem test_prfRead_after_reset : (after State.reset (.prfRead 0 0 5)).response = some (.ok [0, 0, 0, 0]) := by
  decide +kernel

/-- 40_dispatch_rename.md R159, example: r1 names its in-flight register, f3 register 3. -/
theorem test_renameRead_example : (after oneIn (.renameRead 0 1)).response = some (.ok [32])
    ∧ (after oneIn (.renameRead 0 35)).response = some (.ok [3]) := by decide +kernel

/-- 41_queue_model.md R190 and 45_frontend_query.md R329, examples: a repeated MARK_QUEUED latches code 7 and its header. -/
theorem test_markQueued_twice : (after latched .fatalStatus).response = some (.ok [0x0701, 0x00000002, 9])
    ∧ (after queued (.markQueued 0 .rob 0 1)).latch = ⟨true, 7, 0x00000002, 5⟩ := by
  decide +kernel

/-- 41_queue_model.md R191: an issued ROB entry gives up its issue-queue slot. -/
theorem test_issue_gives_up_slot : ((after queued (.issue 0 .rob 0 1)).core 0).iqCount = 0
    ∧ ((after queued (.issue 0 .rob 0 1)).ctx 0).icount = 0 := by decide +kernel

/-- 41_queue_model.md R191: an LSQ entry holds none. -/
theorem test_issue_lsq_keeps_slot :
    ((after (inFlight [storeEntry] [asQueued storeMem] 1) (.issue 0 .lsq 0 1)).core 0).iqCount = 1 := by decide +kernel

/-- 41_queue_model.md R192. -/
theorem test_complete : (((after issued (.complete 0 .rob 0 1)).ctx 0).entry .rob 0).completed = true := by
  decide +kernel

/-- 42_commit.md R230, example: seq, pc, slot, no partner, the register committed and the mapping freed. -/
theorem test_commit_example : (after completed (.commit 0)).response = some (.ok [0, 0x1000, 0, 0, 32, 1])
    ∧ ((after completed (.commit 0)).reg 0 .int 32).state = .architected
    ∧ ((after completed (.commit 0)).reg 0 .int 1).state = .free := by decide +kernel

/-- 42_commit.md R230, corner case 5: a partner that is not completed stalls the commit. -/
theorem test_commit_waits_for_partner : (after storeHalf (.commit 0)).response = some (.stall .notReady) := by decide +kernel

/-- 43_rollback.md R261: the store younger than the add is squashed and its shadow replayed. -/
theorem test_rollback : (after twoIn (.rollbackTo 0 true 0 1)).response = some (.ok [1, 0x1004])
    ∧ (after twoIn (.rollbackTo 0 true 0 1)).trace
      = [.memWrite 8 1 [0xAA] false, .rasRecover 7 0, .insnCountDec 0 1] := by decide +kernel

/-- 43_rollback.md R263: everything is squashed, the redirect PC is the oldest instruction's. -/
theorem test_flush : (after twoIn (.flushContext 0)).response = some (.ok [2, 0x1000])
    ∧ ((after twoIn (.flushContext 0)).reg 0 .int 32).state = .free
    ∧ ((after twoIn (.flushContext 0)).ctx 0).wregOf 1 = 7 := by decide +kernel

/-- 44_context.md R290, example: slot 0, f31 mapped to register 31. -/
theorem test_addContext_example : (after (State.resetWith cfg) (.addContext 0 0)).response = some (.ok [0])
    ∧ ((after (State.resetWith cfg) (.addContext 0 0)).ctx 0).renameOf 63 = 31 := by decide +kernel

/-- 44_context.md R292, example: core 0 and slot 0 are given back, and every register. -/
theorem test_ejectContext_example : (after ready (.ejectContext 0)).response = some (.ok [0, 0])
    ∧ (after ready (.ejectContext 0)).freeCount 0 .fp = 34 := by decide +kernel

/-- 44_context.md R293: the instructions squashed and the new slot. -/
theorem test_transferContext : (after twoIn (.transferContext 0 1)).response = some (.ok [2, 0])
    ∧ ((after twoIn (.transferContext 0 1)).ctx 0).core = 1 := by decide +kernel

/-- 41_queue_model.md R195: due at its key, not one cycle before. -/
theorem test_wqPop_due : (after { waiting with now := 15 } (.wqPop 0 .waiting)).response = some (.ok [0, 0, 0, 1, 15])
    ∧ (after { waiting with now := 14 } (.wqPop 0 .waiting)).response = some .empty := by decide +kernel

/-- 41_queue_model.md R194: the key in the ready queue is the entry's `seq`, here 1, whatever the word given. -/
theorem test_wqInsert_ready_key :
    ((after twoIn (.wqInsert 0 0 .ready .lsq 0 1 99)).core 0).wqReady = [⟨0, .lsq, 0, 1, 1⟩] := by decide +kernel

/-- 41_queue_model.md R196, example: removed once, then there is nothing to remove. -/
theorem test_wqRemove : (after waiting (.wqRemove 0 0 .waiting .rob 0 1)).response = some (.ok [1])
    ∧ (after oneIn (.wqRemove 0 0 .waiting .rob 0 1)).response
      = some (.ok [0]) := by decide +kernel

/-- 45_frontend_query.md R321, example: the record stands in slot 0. -/
theorem test_ifq_example : (after ready (.ifqPush 0 0x1000 0)).response = some (.ok [0])
    ∧ Table.get FetchRecord.blank ((after ready (.ifqPush 0 0x1000 0)).ctx 0).ifq 0 = ⟨0x1000, 0⟩ := by decide +kernel

/-- 45_frontend_query.md R323, R324, example; context 1 is detached. -/
theorem test_wreg_example :
    ((after ready (.wregWrite 1 3 42)).ctx 1).wregOf 3 = 42 := by decide +kernel

/-- 45_frontend_query.md R325, R327, examples: `fetch_pc` is d14; after reset d0 to d13 and d15 are 0. -/
theorem test_setFetchPc_example : ((after ready (.setFetchPc 1 0x1000)).ctx 1).statusWords
    = [0, 0, 0, 0, 0, 0, 0, 0, 0, 0, 0, 0, 0, 0, 0x1000, 0] := by decide +kernel

/-- 45_frontend_query.md R328, example: a fresh core. -/
theorem test_coreStatus_example :
    (after State.reset (.coreStatus 0)).response = some (.ok [0, 0, 64, 64, 0, 0, 0, 0, 0]) := by decide +kernel

/-- 45_frontend_query.md R320, example: the response word of NOP is 0. -/
theorem test_nop_example : (after ready .nop).response.map Response.word = some 0 := by decide +kernel

/-- 60_exceptions.md R364: every command but FATAL_STATUS answers the latched code. -/
theorem test_latched_answers_fatal : (after latched (.ctxStatus 0)).response = some (.fatal 7) := by decide +kernel

/-- The host's numbering: ADD_CONTEXT 0, 0 as the next input after reset is performed by the next step. -/
theorem test_withFetchWord : (match step (State.reset.withFetchWord 32 0x00000008) with
    | .next t => t.response
    | .fault _ => none
    | .refused _ => none) = some (.ok [0]) := by decide +kernel

/-! ### Witnesses: for each statement that has hypotheses, a state and operands that meet them, clause by clause -/

/-- Every command ends in a next state. -/
theorem exec_after (s : State) (i : Instr) : exec i s = .next (after s i) := by
  obtain ⟨t, h⟩ := exec_next i s
  rw [h, after, h]

/-- Context 1 attached to core 1 as well. -/
def beside (s : State) : State :=
  { s with eng := { s.eng with
    cores := s.eng.cores ++ [(1, freshCore 1)]
    contexts := s.eng.contexts ++ [(1, freshCtx 1 1)] } }

/-- Two slots in each core, so that core 1 has an empty one beside context 1, but not 32 FREE registers. -/
def wide (s : State) : State :=
  { s with cfg := { cfg with maxContexts := 2, slotCfg := [[⟨2, 2, 2, 7⟩, ⟨2, 2, 2, 7⟩], [⟨2, 1, 2, 8⟩, ⟨2, 1, 2, 8⟩]] } }

theorem engineOk_ready : EngineOk ready := by
  refine ⟨?_, ?_, ?_, ?_, ?_, ?_, ?_, ?_⟩ <;> decide +kernel

theorem engineOk_oneIn : EngineOk oneIn := by
  refine ⟨?_, ?_, ?_, ?_, ?_, ?_, ?_, ?_⟩ <;> decide +kernel

theorem engineOk_twoIn : EngineOk twoIn := by
  refine ⟨?_, ?_, ?_, ?_, ?_, ?_, ?_, ?_⟩ <;> decide +kernel

theorem engineOk_completed : EngineOk completed := by
  refine ⟨?_, ?_, ?_, ?_, ?_, ?_, ?_, ?_⟩ <;> decide +kernel

theorem engineOk_waiting : EngineOk waiting := by
  refine ⟨?_, ?_, ?_, ?_, ?_, ?_, ?_, ?_⟩ <;> decide +kernel

theorem engineOk_beside : EngineOk (beside twoIn) := by
  refine ⟨?_, ?_, ?_, ?_, ?_, ?_, ?_, ?_⟩ <;> decide +kernel

theorem engineOk_wide : EngineOk (wide (beside twoIn)) := by
  refine ⟨?_, ?_, ?_, ?_, ?_, ?_, ?_, ?_⟩ <;> decide +kernel

/-- The header of every command lies in its row of the opcode map. -/
theorem header_in_row : ∀ i : Instr, Laws.RowMatch.Statement i
  | .nop => Laws.RowMatch.nop
  | .dispatch c p => Laws.RowMatch.dispatch c p
  | .markQueued c b i g => Laws.RowMatch.markQueued c b i g
  | .issue c b i g => Laws.RowMatch.issue c b i g
  | .complete c b i g => Laws.RowMatch.complete c b i g
  | .commit c => Laws.RowMatch.commit c
  | .rollbackTo c m i g => Laws.RowMatch.rollbackTo c m i g
  | .flushContext c => Laws.RowMatch.flushContext c
  | .addContext c k => Laws.RowMatch.addContext c k
  | .ejectContext c => Laws.RowMatch.ejectContext c
  | .transferContext c k => Laws.RowMatch.transferContext c k
  | .findFreePhysreg k q => Laws.RowMatch.findFreePhysreg k q
  | .prfSetReady k q p r t => Laws.RowMatch.prfSetReady k q p r t
  | .prfRead k q p => Laws.RowMatch.prfRead k q p
  | .renameRead c a => Laws.RowMatch.renameRead c a
  | .wqInsert k c q b i g t => Laws.RowMatch.wqInsert k c q b i g t
  | .wqPop k q => Laws.RowMatch.wqPop k q
  | .wqRemove k c q b i g => Laws.RowMatch.wqRemove k c q b i g
  | .ifqPush c p w => Laws.RowMatch.ifqPush c p w
  | .ifqPop c => Laws.RowMatch.ifqPop c
  | .wregRead c a => Laws.RowMatch.wregRead c a
  | .wregWrite c a v => Laws.RowMatch.wregWrite c a v
  | .setFetchPc c p => Laws.RowMatch.setFetchPc c p
  | .entryRead c b i => Laws.RowMatch.entryRead c b i
  | .ctxStatus c => Laws.RowMatch.ctxStatus c
  | .coreStatus k => Laws.RowMatch.coreStatus k
  | .fatalStatus => Laws.RowMatch.fatalStatus

/-- A FATAL_STATUS header with bit 8 set is no command's header. -/
theorem stray_header (i : Instr) : i.header ≠ 0x0000011A := by
  intro h
  have hm := header_in_row i
  rw [Laws.RowMatch.Statement, h] at hm
  cases i <;> simp only [Instr.row, Row.bits] at hm <;> revert hm <;> decide

theorem witness_DecodedHeaderAndLanes : decode ⟨0x00010002, lanes⟩ = .ok (.markQueued 1 .rob 100 101)
    ∧ Payload.take ⟨100, 101, 7, 7, 7, 7, 7, 7, 7, 7⟩ 2 = lanes.take 2 := by decide

theorem witness_MalformedHeaderIsIllegal :
    (withInput ready (.command ⟨0x0000001B, lanes⟩ 6)).port = [.command ⟨0x0000001B, lanes⟩ 6] ∧ ready.latch.set = false
      ∧ 27 ≤ (headerOp 0x0000001B).toNat ∧ (headerOp 0x0000011A).toNat < 27 ∧ ∀ i : Instr, i.header ≠ 0x0000011A :=
  ⟨rfl, rfl, by decide, by decide, stray_header⟩

theorem witness_StepRunsDecodedCommand :
    (feed ready (.flushContext 0) 6).port = [.command (encode (.flushContext 0)) 6]
      ∧ decode (encode (.flushContext 0)) = .ok (.flushContext 0) := ⟨rfl, by decide⟩

theorem witness_IdleAndExecutorSteps : ready.port = []
    ∧ (withInput ready (.executorStore 0xFFFFFFFFFFFFFFFF [1, 2])).port = [.executorStore 0xFFFFFFFFFFFFFFFF [1, 2]]
    ∧ [(1 : Byte), 2].length ≤ 2 ^ 64 := ⟨rfl, rfl, by decide⟩

theorem witness_ResetGivesResetValues : (withInput latched .reset).port = [.reset] := rfl

theorem witness_InvAtReset : cfg.valid = true ∧ Config.Params.ofExample.valid = true := by decide

theorem witness_InvKeptByStep : Inv (feed twoIn (.rollbackTo 0 true 0 1) 6)
    ∧ step (feed twoIn (.rollbackTo 0 true 0 1) 6) = .next (after ((feed twoIn (.rollbackTo 0 true 0 1) 6).accept [] 6)
      (.rollbackTo 0 true 0 1)) :=
  ⟨⟨by decide, by decide, fun _ => rfl, fun _ => engineOk_twoIn⟩,
    (step_command _ _ _ _ _ rfl (by decide)).trans (exec_after _ _)⟩

theorem witness_RingsKeptByStep : (feed twoIn (.commit 0) 6).cfg.valid = true ∧ RingsOk (feed twoIn (.commit 0) 6)
    ∧ step (feed twoIn (.commit 0) 6) = .next (after ((feed twoIn (.commit 0) 6).accept [] 6) (.commit 0))
    ∧ (after ((feed twoIn (.commit 0) 6).accept [] 6) (.commit 0)).latch.set = false :=
  ⟨by decide, engineOk_twoIn.1, (step_command _ _ _ _ _ rfl (by decide)).trans (exec_after _ _), by decide +kernel⟩

theorem witness_ConfigurationAndMemoryFormKept : step ready = .next ready ∧ ready.env.mem.wf = true := ⟨rfl, by decide⟩

theorem witness_FatalLatchHolds : latched.latch.set = true ∧ Instr.nop ≠ .fatalStatus
    ∧ decode ⟨0x0000001B, lanes⟩ = .error .badOpcode
    ∧ step (withInput latched .reset) = .next { latched.engineReset with port := [] }
    ∧ ({ latched.engineReset with port := [] } : State).latch.set = false :=
  ⟨rfl, by decide, by decide, rfl, rfl⟩

theorem witness_DefectLatchesHeaderAndCycle : queued.latch.set = false
    ∧ step (feed queued (.markQueued 0 .rob 0 1) 9) = .next (after ((feed queued (.markQueued 0 .rob 0 1) 9).accept [] 9)
      (.markQueued 0 .rob 0 1))
    ∧ (after ((feed queued (.markQueued 0 .rob 0 1) 9).accept [] 9) (.markQueued 0 .rob 0 1)).latch.set = true :=
  ⟨rfl, (step_command _ _ _ _ _ rfl (by decide)).trans (exec_after _ _), by decide +kernel⟩

theorem witness_TraceOnlyGrows :
    step (feed twoIn (.flushContext 0) 6) = .next (after ((feed twoIn (.flushContext 0) 6).accept [] 6) (.flushContext 0))
      ∧ ∀ rest, (feed twoIn (.flushContext 0) 6).port ≠ .reset :: rest :=
  ⟨(step_command _ _ _ _ _ rfl (by decide)).trans (exec_after _ _), fun _ h => by cases h⟩

theorem witness_OtherContextsAndCoresUntouched :
    exec (.flushContext 0) (beside twoIn) = .next (after (beside twoIn) (.flushContext 0))
      ∧ (after (beside twoIn) (.flushContext 0)).latch.set = false
      ∧ (∀ c ∈ usesCtx (.flushContext 0), c.toNat ≠ 1) ∧ (∀ k ∈ usesCore (.flushContext 0), k.toNat ≠ 1)
      ∧ ((beside twoIn).ctx 0).attached = true ∧ ((beside twoIn).ctx 0).core ≠ 1 :=
  ⟨exec_after _ _, by decide +kernel, by decide, by decide, by decide, by decide⟩

theorem witness_GenerationsNeverDecrease : exec (.flushContext 0) twoIn = .next (after twoIn (.flushContext 0))
    ∧ (after twoIn (.flushContext 0)).latch.set = false ∧ ∀ c p, Instr.flushContext 0 ≠ .dispatch c p :=
  ⟨exec_after _ _, by decide +kernel, fun _ _ h => by cases h⟩

theorem witness_SequenceCounterNeverRewound :
    exec (.dispatch 0 addWords) ready = .next (after ready (.dispatch 0 addWords))
      ∧ (after ready (.dispatch 0 addWords)).latch.set = false
      ∧ (after ready (.dispatch 0 addWords)).response.map (fun r => r.status) = some .ok
      ∧ (after twoIn (.dispatch 0 addWords)).latch.set = false
      ∧ ¬((∃ c p, Instr.dispatch 0 addWords = .dispatch c p)
          ∧ (after twoIn (.dispatch 0 addWords)).response.map (fun r => r.status) = some .ok) :=
  ⟨exec_after _ _, by decide +kernel, by decide +kernel, by decide +kernel, fun h =>
    absurd h.2 (by decide +kernel)⟩

theorem witness_OwnershipMovesAreLegal : exec (.commit 0) completed = .next (after completed (.commit 0))
    ∧ (after completed (.commit 0)).latch.set = false
    ∧ ((after completed (.commit 0)).reg 0 .int 32).state ≠ (completed.reg 0 .int 32).state :=
  ⟨exec_after _ _, by decide +kernel, by decide +kernel⟩

theorem witness_OnlySquashedStoresWriteMemory : exec (.commit 0) completed = .next (after completed (.commit 0))
    ∧ EngineOk twoIn ∧ exec (.flushContext 0) twoIn = .next (after twoIn (.flushContext 0))
    ∧ ∀ c ∈ usesCtx (.flushContext 0), ∀ l ∈ liveEntries (twoIn.ctx c.toNat) .lsq, l.isStore = true →
        ¬ covers l.memAddr l.memSize.toNat 9 := by
  refine ⟨exec_after _ _, engineOk_twoIn, exec_after _ _, fun c hc l hl _ hcov => ?_⟩
  have hc0 : c = 0 := by simpa [usesCtx] using hc.symm
  have hl0 : l = storeMem := by
    have : liveEntries (twoIn.ctx c.toNat) .lsq = [storeMem] := by rw [hc0]; decide +kernel
    simpa [this] using hl
  obtain ⟨k, hk, ha⟩ := hcov
  rw [hl0] at hk ha
  have hk0 : k = 0 := by
    have : storeMem.memSize.toNat = 1 := by decide
    omega
  rw [hk0] at ha
  exact absurd ha (by decide)

theorem witness_BadIdOrBankIsIllegal : ready.latch.set = false
    ∧ (∃ c ∈ usesCtx (.commit 2), ready.cfg.numContexts ≤ c.toNat) ∧ (∃ k ∈ usesCore (.wqPop 2 .ready), ready.cfg.numCores ≤ k.toNat)
    ∧ IdsExist (.prfRead 1 2 0) ready ∧ ∃ q ∈ usesBank (.prfRead 1 2 0), 2 ≤ q.toNat :=
  ⟨rfl, ⟨2, rfl, by decide⟩, ⟨2, rfl, by decide⟩, by decide, ⟨2, rfl, by decide⟩⟩

theorem witness_AttachmentIsChecked : ready.latch.set = false ∧ IdsExist (.commit 1) ready
    ∧ usesCtx (.commit 1) = some 1 ∧ needsAttached (.commit 1) = true ∧ (ready.ctx 1).attached = false
    ∧ (0 : BitVec 8).toNat < ready.cfg.numContexts ∧ (1 : BitVec 8).toNat < ready.cfg.numCores
    ∧ (ready.ctx 0).attached = true
    ∧ (after ready (.commit 1)).response = some (.fatal Defect.notAttached.code)
    ∧ (after ready (.addContext 0 1)).response = some (.fatal Defect.alreadyAttached.code) := by decide +kernel

theorem witness_BadIndexThenStale : oneIn.latch.set = false ∧ (0 : BitVec 8).toNat < oneIn.cfg.numContexts
    ∧ (0 : BitVec 8).toNat < oneIn.cfg.numCores ∧ (1 : BitVec 2).toNat < 2 ∧ (oneIn.ctx 0).attached = true
    ∧ ((oneIn.ctx 0).ring .rob).cap ≤ (2 : Word).toNat ∧ ((oneIn.ctx 0).ring .lsq).cap ≤ (2 : Word).toNat
    ∧ oneIn.cfg.maxCap ≤ (2 : Word).toNat
    ∧ oneIn.cfg.prfBankSize ≤ (34 : Word).toNat ∧ (1 : Word).toNat < ((oneIn.ctx 0).ring .rob).cap
    ∧ (1 : Word).toNat < oneIn.cfg.maxCap ∧ oneIn.live 0 .rob 1 1 = false ∧ oneIn.live 0 .rob 0 0 = false
    ∧ oneIn.live 0 .rob 0 1 = true ∧ (oneIn.ctx 0).core ≠ (1 : BitVec 8).toNat := by decide

/-- An instruction without a destination, and a load with one. -/
def bareWords : DispatchWords := ⟨0x30, 0x2000, 0x2004, 0x2004, 99, 0, 0, 0, 3, 0⟩
def loadWords : DispatchWords := ⟨0x20, 0x2000, 0x2004, 0x2004, 31, 0, 0, 0xFFFFFFFFFFFFFFFF, 8, 0⟩

theorem witness_DispatchCreatesRobEntry : Dispatchable ready 0 addWords ∧ Dispatchable ready 0 bareWords := by
  decide +kernel

theorem witness_DispatchRenamesDestination : Dispatchable ready 0 loadWords ∧ Dispatchable ready 0 storeWords
    ∧ (classify ready.cfg loadWords.opcode).dest ≠ .none ∧ (classify ready.cfg storeWords.opcode).dest = .none
    ∧ exec (.dispatch 0 loadWords) ready = .next (after ready (.dispatch 0 loadWords)) :=
  ⟨by decide +kernel, by decide +kernel, by decide, by decide, exec_after _ _⟩

theorem witness_DispatchCreatesLsqEntry : Dispatchable ready 0 loadWords ∧ Dispatchable ready 0 addWords
    ∧ isMem (classify ready.cfg loadWords.opcode) = true ∧ isMem (classify ready.cfg addWords.opcode) = false
    ∧ exec (.dispatch 0 loadWords) ready = .next (after ready (.dispatch 0 loadWords)) :=
  ⟨by decide +kernel, by decide +kernel, by decide, by decide, exec_after _ _⟩

theorem witness_DispatchFrame : Dispatchable oneIn 0 storeWords
    ∧ exec (.dispatch 0 storeWords) oneIn = .next (after oneIn (.dispatch 0 storeWords)) :=
  ⟨by decide +kernel, exec_after _ _⟩

/-- Room in the ROB but none in the LSQ; none in the issue queue; no FREE register. -/
def lsqFull : State := oneIn.updCtx 0 (fun x => { x with lsqRing := ⟨0, 0, 2, 2⟩ })
def iqFull : State := oneIn.updCore 0 (fun x => { x with iqCount := 2 })
def noReg : State := oneIn.setReg 0 .int 33 ⟨.alloc, 0, 0, 0⟩

theorem witness_DispatchRefusedChangesNothing :
    oneIn.latch.set = false ∧ (0 : BitVec 8).toNat < oneIn.cfg.numContexts ∧ (oneIn.ctx 0).attached = true
      ∧ (classify oneIn.cfg 0x10).dest = .int ∧ 32 ≤ (32 : Word).toNat ∧ ¬ 32 ≤ (31 : Word).toNat
      ∧ isMem (classify oneIn.cfg 0x21) = true ∧ ¬((3 : Word) = 1 ∨ (3 : Word) = 2 ∨ (3 : Word) = 4 ∨ (3 : Word) = 8)
      ∧ (twoIn.ctx 0).robRing.num = (twoIn.ctx 0).robRing.cap
      ∧ (lsqFull.ctx 0).robRing.num ≠ (lsqFull.ctx 0).robRing.cap ∧ (lsqFull.ctx 0).lsqRing.num = (lsqFull.ctx 0).lsqRing.cap
      ∧ (iqFull.ctx 0).robRing.num ≠ (iqFull.ctx 0).robRing.cap ∧ (iqFull.core 0).iqCount = iqCapOf iqFull.cfg 0
      ∧ (noReg.ctx 0).robRing.num ≠ (noReg.ctx 0).robRing.cap ∧ (noReg.core 0).iqCount ≠ iqCapOf noReg.cfg 0
      ∧ (∀ q < noReg.cfg.prfBankSize, (noReg.reg 0 .int q).state ≠ .free) := by decide +kernel

theorem witness_FindFreeAnswersLowest : oneIn.latch.set = false ∧ (0 : BitVec 8).toNat < oneIn.cfg.numCores
    ∧ 33 < oneIn.cfg.prfBankSize ∧ (oneIn.reg 0 .int 33).state = .free ∧ (∀ r < 33, (oneIn.reg 0 .int r).state ≠ .free)
    ∧ (∀ q < noReg.cfg.prfBankSize, (noReg.reg 0 .int q).state ≠ .free) := by decide +kernel

theorem witness_PrfSetReadyWritesTimestamps : oneIn.latch.set = false ∧ (0 : BitVec 8).toNat < oneIn.cfg.numCores
    ∧ (33 : Word).toNat < oneIn.cfg.prfBankSize ∧ (oneIn.reg 0 .int 32).state = .alloc
    ∧ (oneIn.reg 0 .int 33).state ≠ .alloc := by decide

theorem witness_PrfReadAnswersRecord : oneIn.latch.set = false ∧ (1 : BitVec 8).toNat < oneIn.cfg.numCores
    ∧ 2 ≤ (2 : BitVec 2).toNat ∧ (1 : BitVec 2).toNat < 2 ∧ oneIn.cfg.prfBankSize ≤ (34 : Word).toNat
    ∧ (33 : Word).toNat < oneIn.cfg.prfBankSize := by decide

theorem witness_RenameReadAnswersMapping : oneIn.latch.set = false ∧ (1 : BitVec 8).toNat < oneIn.cfg.numContexts
    ∧ (oneIn.ctx 1).attached = false ∧ (oneIn.ctx 0).attached = true ∧ 64 ≤ (64 : Word).toNat
    ∧ (63 : Word).toNat < 64 := by decide

theorem witness_MarkQueuedAndCompleteSetTheirBit : (oneIn.latch.set = false ∧ (0 : BitVec 8).toNat < oneIn.cfg.numContexts) ∧ oneIn.live 0 .rob 0 1 = true
    ∧ ((oneIn.ctx 0).entry .rob 0).dispatched = true ∧ ((oneIn.ctx 0).entry .rob 0).queued = false
    ∧ issued.latch.set = false ∧ (0 : BitVec 8).toNat < issued.cfg.numContexts ∧ issued.live 0 .rob 0 1 = true ∧ ((issued.ctx 0).entry .rob 0).issued = true
    ∧ ((issued.ctx 0).entry .rob 0).completed = false := by decide

theorem witness_IssueReleasesIssueQueueSlot : queued.latch.set = false ∧ (0 : BitVec 8).toNat < queued.cfg.numContexts ∧ queued.live 0 .rob 0 1 = true
    ∧ ((queued.ctx 0).entry .rob 0).queued = true ∧ ((queued.ctx 0).entry .rob 0).issued = false := by decide

theorem witness_BadTransitionIsFatal : queued.live 0 .rob 0 1 = true ∧ queued.latch.set = false ∧ (0 : BitVec 8).toNat < queued.cfg.numContexts
    ∧ ¬(((queued.ctx 0).entry .rob 0).dispatched = true ∧ ((queued.ctx 0).entry .rob 0).queued = false)
    ∧ oneIn.live 0 .rob 0 1 = true ∧ oneIn.latch.set = false ∧ (0 : BitVec 8).toNat < oneIn.cfg.numContexts
    ∧ ¬(((oneIn.ctx 0).entry .rob 0).queued = true ∧ ((oneIn.ctx 0).entry .rob 0).issued = false)
    ∧ ¬(((oneIn.ctx 0).entry .rob 0).issued = true ∧ ((oneIn.ctx 0).entry .rob 0).completed = false) := by decide

theorem witness_WqInsertAddsMembership : oneIn.latch.set = false ∧ (0 : BitVec 8).toNat < oneIn.cfg.numCores
    ∧ (0 : BitVec 8).toNat < oneIn.cfg.numContexts ∧ (0 : Word).toNat < oneIn.cfg.maxCap
    ∧ oneIn.live 0 .rob 0 1 = true ∧ (oneIn.ctx 0).core = (0 : BitVec 8).toNat
    ∧ (∀ m ∈ (oneIn.core 0).wq .ready, ¬(m.ctx = 0 ∧ m.buf = .rob ∧ m.idx = 0))
    ∧ waiting.latch.set = false ∧ (0 : BitVec 8).toNat < waiting.cfg.numContexts ∧ (waiting.ctx 0).core = (0 : BitVec 8).toNat
    ∧ waiting.live 0 .rob 0 1 = true ∧ (∃ m ∈ (waiting.core 0).wq .waiting, m.ctx = 0 ∧ m.buf = .rob ∧ m.idx = 0) := by
  decide

theorem witness_WqPopTakesLeastDueKey : EngineOk waiting ∧ waiting.latch.set = false
    ∧ (0 : BitVec 8).toNat < waiting.cfg.numCores ∧ waiting.now = 5 ∧ (∀ m ∈ (waiting.core 0).wq .waiting, ¬ m.key ≤ 14)
    ∧ ∃ m ∈ (waiting.core 0).wq .waiting, m.key ≤ 15 :=
  ⟨engineOk_waiting, by decide⟩

theorem witness_WqRemoveTakesMembership : waiting.latch.set = false ∧ (0 : BitVec 8).toNat < waiting.cfg.numCores
    ∧ (0 : BitVec 8).toNat < waiting.cfg.numContexts ∧ waiting.live 0 .rob 0 1 = true
    ∧ (0 : Word).toNat < waiting.cfg.maxCap ∧ (waiting.ctx 0).core = (0 : BitVec 8).toNat
    ∧ (∃ m ∈ (waiting.core 0).wq .waiting, m.ctx = 0 ∧ m.buf = .rob ∧ m.idx = 0 ∧ m.gen = 1)
    ∧ ∀ m ∈ (waiting.core 0).wq .ready, ¬(m.ctx = 0 ∧ m.buf = .rob ∧ m.idx = 0 ∧ m.gen = 1) := by decide

theorem witness_CommitRetiresTheHead :
    (∀ s ∈ [completed, storeWhole], s.latch.set = false ∧ (0 : BitVec 8).toNat < s.cfg.numContexts ∧ (s.ctx 0).attached = true ∧ (s.ctx 0).robRing.num ≠ 0
      ∧ ((s.ctx 0).entry .rob 0).completed = true)
    ∧ ((completed.ctx 0).entry .rob 0).eaComp = false ∧ ((completed.ctx 0).entry .rob 0).physreg = some 32
    ∧ (completed.reg 0 .int 32).state = .alloc ∧ ((completed.ctx 0).entry .rob 0).oldPhysreg = some 1
    ∧ (completed.reg 0 .int 1).state = .architected
    ∧ (storeWhole.ctx 0).lsqRing.num ≠ 0 ∧ ((storeWhole.ctx 0).entry .lsq 0).seq = ((storeWhole.ctx 0).entry .rob 0).seq
    ∧ ((storeWhole.ctx 0).entry .lsq 0).completed = true ∧ ((storeWhole.ctx 0).entry .rob 0).physreg = none := by decide

/-- A store whose partner is gone; a completed add whose register is not ALLOC. -/
def partnerGone : State := inFlight [asCompleted storeEntry] [] 0
def notAlloc : State := completed.setReg 0 .int 32 ⟨.free, 0, 0, 0⟩

theorem witness_CommitOtherwise : EngineOk completed
    ∧ (∀ s ∈ [ready, oneIn, partnerGone, storeHalf, notAlloc, completed], s.latch.set = false
      ∧ (0 : BitVec 8).toNat < s.cfg.numContexts ∧ (s.ctx 0).attached = true) ∧ (ready.ctx 0).robRing.num = 0
    ∧ (oneIn.ctx 0).robRing.num ≠ 0 ∧ ((oneIn.ctx 0).entry .rob 0).completed = false
    ∧ (partnerGone.ctx 0).robRing.num ≠ 0 ∧ ((partnerGone.ctx 0).entry .rob 0).completed = true
    ∧ ((partnerGone.ctx 0).entry .rob 0).eaComp = true ∧ (partnerGone.ctx 0).lsqRing.num = 0
    ∧ (storeHalf.ctx 0).robRing.num ≠ 0 ∧ ((storeHalf.ctx 0).entry .rob 0).completed = true
    ∧ ((storeHalf.ctx 0).entry .lsq 0).completed = false
    ∧ ((storeHalf.ctx 0).entry .lsq 0).seq = ((storeHalf.ctx 0).entry .rob 0).seq ∧ (storeHalf.ctx 0).lsqRing.num ≠ 0
    ∧ (notAlloc.ctx 0).robRing.num ≠ 0 ∧ ((notAlloc.ctx 0).entry .rob 0).completed = true
    ∧ ((notAlloc.ctx 0).entry .rob 0).eaComp = false
    ∧ ((notAlloc.ctx 0).entry .rob 0).physreg = some 32 ∧ (notAlloc.reg 0 .int 32).state ≠ .alloc :=
  ⟨engineOk_completed, by decide +kernel⟩

theorem witness_RollbackSquashesTheYounger : EngineOk twoIn ∧ twoIn.latch.set = false
    ∧ (0 : BitVec 8).toNat < twoIn.cfg.numContexts ∧ twoIn.live 0 .rob 0 1 = true
    ∧ undoneStores (twoIn.ctx 0) 1 = [storeMem] ∧ Accepts twoIn (undoneStores (twoIn.ctx 0) 1).length :=
  ⟨engineOk_twoIn, by decide +kernel⟩

theorem witness_FlushSquashesEverything : EngineOk twoIn ∧ EngineOk ready
    ∧ ∀ s ∈ [twoIn, ready], s.latch.set = false ∧ (0 : BitVec 8).toNat < s.cfg.numContexts ∧ (s.ctx 0).attached = true
      ∧ Accepts s (undoneStores (s.ctx 0) (s.ctx 0).robRing.num).length :=
  ⟨engineOk_twoIn, engineOk_ready, by decide +kernel⟩

/-- The store executed and dispatched, and a run in which the driver also writes r1 and marks a ROB entry queued. -/
def fedStore : List Fed := [(6, storeWords, [0xBB])]
def mixed : List Sent := [.fed (6, storeWords, [0xBB]), .other 7 (.wregWrite 0 1 99), .other 8 (.markQueued 0 .rob 0 1)]

/-- The state in which a run ends. -/
def fedEnd (s : State) : State := (dispatchAll 0 fedStore s).getD s
def mixedEnd (s : State) : State :=
  after { after { fedEnd s with now := 7 } (.wregWrite 0 1 99) with now := 8 } (.markQueued 0 .rob 0 1)

/-- A run that is dispatched ends in `fedEnd`. -/
theorem fed_dispatches (s : State) (h : (dispatchAll 0 fedStore s).isSome = true) : dispatchAll 0 fedStore s = some (fedEnd s) := by
  obtain ⟨t, ht⟩ := Option.isSome_iff_exists.mp h
  rw [fedEnd, ht, Option.getD_some]

/-- A run that holds nothing but DISPATCHes is sent as it is dispatched. -/
theorem sends_of_fed (s : State) (h : (dispatchAll 0 fedStore s).isSome = true) :
    Sends 0 (fedStore.map Sent.fed) s (fedEnd s) := by
  have hd := fed_dispatches s h
  simp only [fedStore, dispatchAll] at hd
  split at hd
  · cases hd
  · rename_i u hu
    exact ⟨u, hu, (Option.some.inj hd).symm⟩

/-- The mixed run: its other commands raise no defect and leave the FREE set alone. -/
theorem sends_mixed (s : State) (h : (dispatchAll 0 fedStore s).isSome = true)
    (hw : (after { fedEnd s with now := 7 } (.wregWrite 0 1 99)).latch.set = false
      ∧ SameFree (fedEnd s) (after { fedEnd s with now := 7 } (.wregWrite 0 1 99)) ((fedEnd s).ctx 0).core)
    (hq : (mixedEnd s).latch.set = false
      ∧ SameFree (after { fedEnd s with now := 7 } (.wregWrite 0 1 99)) (mixedEnd s)
          ((after { fedEnd s with now := 7 } (.wregWrite 0 1 99)).ctx 0).core) :
    Sends 0 mixed s (mixedEnd s) := by
  obtain ⟨u, hu, he⟩ := sends_of_fed s h
  obtain rfl : fedEnd s = u := he
  exact ⟨_, hu, _, exec_after _ _, hw.1, hw.2, nofun, nofun, _, exec_after _ _, hq.1, hq.2, nofun, nofun, rfl⟩

theorem witness_RollbackUndoesDispatches : EngineOk oneIn ∧ EngineOk ready
    ∧ Sends 0 (fedStore.map Sent.fed) oneIn (fedEnd oneIn) ∧ Sends 0 mixed oneIn (mixedEnd oneIn)
    ∧ Sends 0 (fedStore.map Sent.fed) ready (fedEnd ready) ∧ Sends 0 mixed ready (mixedEnd ready)
    ∧ (∀ s ∈ [oneIn, ready], s.latch.set = false ∧ (0 : BitVec 8).toNat < s.cfg.numContexts ∧ (s.ctx 0).attached = true)
    ∧ oneIn.live 0 .rob 0 1 = true ∧ (oneIn.ctx 0).robRing.pos 0 + 1 = (oneIn.ctx 0).robRing.num
    ∧ (mixedEnd oneIn).live 0 .rob 0 1 = true ∧ (∀ e ∈ liveEntries (ready.ctx 0) .rob, e.physreg = none)
    ∧ ∀ s ∈ [fedEnd oneIn, mixedEnd oneIn, fedEnd ready, mixedEnd ready],
      Accepts s (undoneStores (s.ctx 0) ((s.ctx 0).robRing.num - 1 - (s.ctx 0).robRing.pos 0)).length
      ∧ Accepts s (undoneStores (s.ctx 0) (s.ctx 0).robRing.num).length :=
  ⟨engineOk_oneIn, engineOk_ready, sends_of_fed _ (by decide +kernel),
    sends_mixed _ (by decide +kernel) (by decide +kernel) (by decide +kernel), sends_of_fed _ (by decide +kernel),
    sends_mixed _ (by decide +kernel) (by decide +kernel) (by decide +kernel), by decide +kernel⟩

theorem captured_fedStore : captured cfg ready.env.mem fedStore := by
  refine ⟨?_, trivial⟩
  rw [if_pos (by decide)]
  exact ⟨by decide, by decide⟩

theorem witness_RollbackRestoresMemory : EngineOk oneIn ∧ EngineOk ready
    ∧ captured oneIn.cfg oneIn.env.mem fedStore ∧ captured ready.cfg ready.env.mem fedStore
    ∧ dispatchAll 0 fedStore oneIn = some (fedEnd oneIn) ∧ dispatchAll 0 fedStore ready = some (fedEnd ready)
    ∧ (∀ s ∈ [oneIn, ready], s.latch.set = false ∧ (0 : BitVec 8).toNat < s.cfg.numContexts ∧ (s.ctx 0).attached = true
      ∧ Accepts (fedEnd s) (undoneStores ((fedEnd s).ctx 0) fedStore.length).length)
    ∧ oneIn.live 0 .rob 0 1 = true ∧ (oneIn.ctx 0).robRing.pos 0 + 1 = (oneIn.ctx 0).robRing.num
    ∧ (ready.ctx 0).robRing.num = 0 ∧ oneIn.env.mem.read 8 ≠ none :=
  ⟨engineOk_oneIn, engineOk_ready, captured_fedStore, captured_fedStore, fed_dispatches _ (by decide +kernel),
    fed_dispatches _ (by decide +kernel), by decide +kernel⟩

/-- The add and the store in flight, the memory's first answer a fault. -/
def faulting : State := { twoIn with env := { twoIn.env with draws := [1] } }

theorem witness_ReplayFaultIsFatal : EngineOk faulting ∧ faulting.latch.set = false
    ∧ (0 : BitVec 8).toNat < faulting.cfg.numContexts ∧ (1 : BitVec 8).toNat < faulting.cfg.numCores
    ∧ (faulting.ctx 0).attached = true ∧ Accepts faulting 0 ∧ (faulting.env.draws[0]?).any drawFaults = true
    ∧ faulting.live 0 .rob 0 1 = true
    ∧ (undoneStores (faulting.ctx 0) ((faulting.ctx 0).robRing.num - 1 - (faulting.ctx 0).robRing.pos 0))[0]? = some storeMem
    ∧ (undoneStores (faulting.ctx 0) (faulting.ctx 0).robRing.num)[0]? = some storeMem :=
  ⟨engineOk_twoIn, by decide +kernel⟩

/-- 95_test_vectors.md V-RB-7: a flush whose replay faults. -/
theorem test_replay_fault : (after faulting (.flushContext 0)).response = some (.fatal 10)
    ∧ (after faulting (.flushContext 0)).trace = [.memWrite 8 1 [0xAA] true] := by decide +kernel

theorem witness_AddContextLeasesLowest : ready.latch.set = false ∧ (1 : BitVec 8).toNat < ready.cfg.numContexts
    ∧ (1 : BitVec 8).toNat < ready.cfg.numCores ∧ (ready.ctx 1).attached = false ∧ 0 < ready.cfg.maxContexts
    ∧ (ready.core 1).slotOf 0 = none ∧ 32 ≤ (freeList ready 1 .int).length ∧ 32 ≤ (freeList ready 1 .fp).length := by
  decide +kernel

theorem witness_AddContextRejected : ready.latch.set = false ∧ (1 : BitVec 8).toNat < ready.cfg.numContexts
    ∧ (0 : BitVec 8).toNat < ready.cfg.numCores ∧ (wide ready).latch.set = false ∧ (1 : BitVec 8).toNat < (wide ready).cfg.numContexts
    ∧ (0 : BitVec 8).toNat < (wide ready).cfg.numCores ∧ (ready.ctx 1).attached = false
    ∧ (∀ n < ready.cfg.maxContexts, (ready.core 0).slotOf n ≠ none) ∧ ((wide ready).ctx 1).attached = false
    ∧ (∃ n < (wide ready).cfg.maxContexts, ((wide ready).core 0).slotOf n = none)
    ∧ (freeList (wide ready) 0 .int).length < 32 := by decide +kernel

theorem witness_EjectReturnsRegisters : ready.latch.set = false ∧ (0 : BitVec 8).toNat < ready.cfg.numContexts ∧ (ready.ctx 0).attached = true
    ∧ (ready.ctx 0).robRing.num = 0 ∧ (ready.ctx 0).icount = 0 ∧ (ready.ctx 0).lsqRing.num = 0
    ∧ ∀ a < 64, (ready.reg 0 (bankOf a) ((ready.ctx 0).renameOf a)).state = .architected
      ∧ (ready.reg 0 (bankOf a) ((ready.ctx 0).renameOf a)).readyCycle ≤ ready.now
      ∧ (ready.reg 0 (bankOf a) ((ready.ctx 0).renameOf a)).specReadyCycle ≤ ready.now := by decide +kernel

/-- An LSQ entry is left without its ROB entry; the last rename target, f31's, is FREE; it is ready only at cycle 6. -/
def lsqLeft : State := ready.updCtx 0 (fun x => { x with lsqRing := ⟨0, 1, 1, 2⟩ })
def lastFree : State := ready.setReg 0 .fp 31 ⟨.free, 0, 0, 0⟩
def lastLate : State := ready.setReg 0 .fp 31 ⟨.architected, 0, 6, 0⟩

theorem witness_EjectDefectsInOrder :
    (∀ s ∈ [oneIn, lsqLeft, lastFree, lastLate], s.latch.set = false ∧ (0 : BitVec 8).toNat < s.cfg.numContexts
      ∧ (s.ctx 0).attached = true) ∧ (oneIn.ctx 0).robRing.num ≠ 0
    ∧ (lsqLeft.ctx 0).robRing.num = 0 ∧ (lsqLeft.ctx 0).icount = 0 ∧ (lsqLeft.ctx 0).lsqRing.num ≠ 0
    ∧ (lastFree.reg 0 .fp 31).state ≠ .architected ∧ (lastLate.reg 0 .fp 31).state = .architected
    ∧ lastLate.now < (lastLate.reg 0 .fp 31).specReadyCycle
    ∧ ∀ s ∈ [lastFree, lastLate], (s.ctx 0).robRing.num = 0 ∧ (s.ctx 0).icount = 0 ∧ (s.ctx 0).lsqRing.num = 0
      ∧ ∀ j < 63, (s.reg 0 (bankOf j) ((s.ctx 0).renameOf j)).state = .architected
        ∧ (s.reg 0 (bankOf j) ((s.ctx 0).renameOf j)).readyCycle ≤ s.now
        ∧ (s.reg 0 (bankOf j) ((s.ctx 0).renameOf j)).specReadyCycle ≤ s.now := by decide +kernel

theorem witness_QuiescentContextEjects : EngineOk ready ∧ ready.latch.set = false
    ∧ (0 : BitVec 8).toNat < ready.cfg.numContexts ∧ (ready.ctx 0).attached = true
    ∧ (ready.ctx 0).robRing.num = 0 ∧ TimestampsPast ready 0 :=
  ⟨engineOk_ready, by decide +kernel⟩

theorem witness_TransferMovesContext : EngineOk twoIn ∧ emptyGivenUp twoIn 0 1 0 ∧ emptyGivenUp twoIn 0 0 0
    ∧ (∀ k : Nat, ∀ i < 0, ¬ emptyGivenUp twoIn 0 k i) ∧ twoIn.latch.set = false
    ∧ (0 : BitVec 8).toNat < twoIn.cfg.numContexts ∧ (1 : BitVec 8).toNat < twoIn.cfg.numCores
    ∧ (0 : BitVec 8).toNat < twoIn.cfg.numCores ∧ (twoIn.ctx 0).attached = true ∧ (twoIn.ctx 0).core = 0
    ∧ TimestampsPast twoIn 0 ∧ 0 < twoIn.cfg.maxContexts
    ∧ 32 ≤ (freeGivenUp twoIn 0 1 .int).length ∧ 32 ≤ (freeGivenUp twoIn 0 1 .fp).length
    ∧ Accepts twoIn (undoneStores (twoIn.ctx 0) (twoIn.ctx 0).robRing.num).length :=
  ⟨engineOk_twoIn, .inl (by decide), .inr (by decide), fun _ _ h => absurd h (Nat.not_lt_zero _), by decide +kernel⟩

theorem witness_TransferRejectedLeavesDetached : EngineOk (beside twoIn) ∧ EngineOk (wide (beside twoIn))
    ∧ (∀ s ∈ [beside twoIn, wide (beside twoIn)], s.latch.set = false ∧ (0 : BitVec 8).toNat < s.cfg.numContexts
      ∧ (1 : BitVec 8).toNat < s.cfg.numCores ∧ (s.ctx 0).attached = true ∧ (s.ctx 0).core ≠ (1 : BitVec 8).toNat)
    ∧ TimestampsPast (beside twoIn) 0 ∧ TimestampsPast (wide (beside twoIn)) 0
    ∧ (∀ j < (beside twoIn).cfg.maxContexts, ((beside twoIn).core 1).slotOf j ≠ none)
    ∧ (¬ ∀ j < (wide (beside twoIn)).cfg.maxContexts, ((wide (beside twoIn)).core 1).slotOf j ≠ none)
    ∧ (freeList (wide (beside twoIn)) 1 .int).length < 32 ∧ ((beside twoIn).ctx 0).core = (0 : BitVec 8).toNat
    ∧ Accepts (beside twoIn) (undoneStores ((beside twoIn).ctx 0) 2).length
    ∧ Accepts (wide (beside twoIn)) (undoneStores ((wide (beside twoIn)).ctx 0) 2).length :=
  ⟨engineOk_beside, engineOk_wide, by decide +kernel⟩

/-- The add and the store in flight, and register 2, which is r2's, ready only at cycle 6. -/
def pending : State := twoIn.setReg 0 .int 2 ⟨.architected, 6, 0, 0⟩

theorem engineOk_pending : EngineOk pending := by
  refine ⟨?_, ?_, ?_, ?_, ?_, ?_, ?_, ?_⟩ <;> decide +kernel

theorem witness_TransferEvictionDefects : EngineOk pending
    ∧ (∀ s ∈ [pending, lastFree, lastLate], s.latch.set = false ∧ (0 : BitVec 8).toNat < s.cfg.numContexts
      ∧ (1 : BitVec 8).toNat < s.cfg.numCores ∧ (s.ctx 0).attached = true)
    ∧ ¬ TimestampsPast pending 0 ∧ Accepts pending (undoneStores (pending.ctx 0) (pending.ctx 0).robRing.num).length
    ∧ (lastFree.reg 0 .fp 31).state ≠ .architected ∧ (lastLate.reg 0 .fp 31).state = .architected
    ∧ lastLate.now < (lastLate.reg 0 .fp 31).specReadyCycle
    ∧ (∀ s ∈ [lastFree, lastLate], (s.ctx 0).robRing.num = 0 ∧ (s.ctx 0).lsqRing.num = 0
      ∧ ∀ j < 63, (s.reg 0 (bankOf j) ((s.ctx 0).renameOf j)).state = .architected
        ∧ (s.reg 0 (bankOf j) ((s.ctx 0).renameOf j)).readyCycle ≤ s.now
        ∧ (s.reg 0 (bankOf j) ((s.ctx 0).renameOf j)).specReadyCycle ≤ s.now)
    ∧ (after pending (.transferContext 0 1)).response = some (.fatal Defect.ejectPendingTimestamp.code) :=
  ⟨engineOk_pending, by decide +kernel⟩

theorem witness_NopDoesNothing : ready.latch.set = false ∧ latched.latch.set = true ∧ headerOp 0x00000100 = 0 := by decide

/-- A fetch queue that is full, and one that holds one record. -/
def ifqFull : State := ready.updCtx 0 (fun x => { x with ifqRing := ⟨1, 1, 2, 2⟩ })
def ifqOne : State := ready.updCtx 0 (fun x => { x with ifqRing := ⟨1, 0, 1, 2⟩, ifq := [(1, ⟨0x40, 0x41⟩)] })

theorem witness_FetchQueuePushAndPop : (ifqFull.ctx 0).ifqRing.num = (ifqFull.ctx 0).ifqRing.cap
    ∧ (ifqOne.ctx 0).ifqRing.num ≠ (ifqOne.ctx 0).ifqRing.cap ∧ (ifqOne.ctx 0).ifqRing.num ≠ 0
    ∧ (ready.ctx 0).ifqRing.num = 0
    ∧ ∀ s ∈ [ready, ifqOne, ifqFull], s.latch.set = false ∧ (0 : BitVec 8).toNat < s.cfg.numContexts ∧ (s.ctx 0).attached = true := by
  decide

theorem witness_WorkingRegisterReadAndWrite : ready.latch.set = false ∧ (1 : BitVec 8).toNat < ready.cfg.numContexts
    ∧ (63 : Word).toNat < 64 ∧ 64 ≤ (64 : Word).toNat := by decide

theorem witness_SetFetchPcWritesFetchPc : ready.latch.set = false ∧ (1 : BitVec 8).toNat < ready.cfg.numContexts := by
  decide

theorem witness_EntryReadAnswersFields : oneIn.latch.set = false ∧ (0 : BitVec 8).toNat < oneIn.cfg.numContexts ∧ (oneIn.ctx 0).attached = true
    ∧ (1 : Word).toNat < ((oneIn.ctx 0).ring .rob).cap
    ∧ ((oneIn.ctx 0).ring .rob).pos 0 < ((oneIn.ctx 0).ring .rob).num
    ∧ ¬((oneIn.ctx 0).ring .rob).pos 1 < ((oneIn.ctx 0).ring .rob).num := by decide

theorem witness_StatusReadouts : ready.latch.set = false ∧ (1 : BitVec 8).toNat < ready.cfg.numContexts
    ∧ (ready.ctx 1).attached = false ∧ (ready.ctx 0).attached = true ∧ (ready.ctx 0).core < 256 ∧ (ready.ctx 0).slot < 256
    ∧ (1 : BitVec 8).toNat < ready.cfg.numCores ∧ ready.cfg.maxContexts ≤ 64 := by decide

theorem witness_FatalStatusAnswersLatch : LatchOk ready ∧ ready.latch.set = false ∧ latched.latch.set = true :=
  ⟨fun _ => rfl, rfl, rfl⟩

end Sys2Proof.Tests
end

/-! PROOFS. The sequence counter (10_state.md R52): what each shared operation and each command does to it. -/

namespace Sys2Proof.Machine

/-! ### Where a command's body ends -/

/-- The body, if it ends in a response, ends in a state and a response that `Q` holds of. -/
def Ran.Ends (Q : State → Response → Prop) : Ran → Prop
  | .done s r => Q s r
  | .fatal _ _ => True

theorem Ran.Ends.ite {Q : State → Response → Prop} {p : Prop} [Decidable p] {a b : Ran} (ha : p → a.Ends Q)
    (hb : ¬p → b.Ends Q) : (if p then a else b).Ends Q := by
  split
  · exact ha ‹_›
  · exact hb ‹_›

theorem Ran.Ends.after {Q : State → Response → Prop} {r : Except (Defect × State) State} {k : State → Ran}
    (h : ∀ s, r = .ok s → (k s).Ends Q) : (Ran.after r k).Ends Q := by
  cases r with
  | ok s => exact h s rfl
  | error e => trivial

section Checks

variable {Q : State → Response → Prop} {s : State} {k : Ran}

theorem checkCtx_ends {c : BitVec 8} (hs : Q s (.illegal .badId)) (hk : k.Ends Q) : (checkCtx c s k).Ends Q :=
  .ite (fun _ => hk) fun _ => hs

theorem checkCore_ends {c : BitVec 8} (hs : Q s (.illegal .badId)) (hk : k.Ends Q) : (checkCore c s k).Ends Q :=
  .ite (fun _ => hk) fun _ => hs

theorem checkBank_ends {q : BitVec 2} {k : Bank → Ran} (hs : Q s (.illegal .badBank)) (hk : ∀ b, (k b).Ends Q) :
    (checkBank q s k).Ends Q := .ite (fun _ => hk _) fun _ => hs

theorem checkAttached_ends {c : BitVec 8} (hk : k.Ends Q) : (checkAttached c s k).Ends Q :=
  .ite (fun _ => hk) fun _ => trivial

theorem checkSlot_ends {c : BitVec 8} {b : Buf} {i : Word} (hs : Q s (.illegal .badIndex)) (hk : k.Ends Q) :
    (checkSlot c b i s k).Ends Q := .ite (fun _ => hk) fun _ => hs

theorem checkQueueSlot_ends {i : Word} (hs : Q s (.illegal .badIndex)) (hk : k.Ends Q) : (checkQueueSlot i s k).Ends Q :=
  .ite (fun _ => hk) fun _ => hs

theorem checkReg_ends {p : Word} (hs : Q s (.illegal .badIndex)) (hk : k.Ends Q) : (checkReg p s k).Ends Q :=
  .ite (fun _ => hk) fun _ => hs

theorem checkArchreg_ends {a : Word} (hs : Q s (.illegal .badArchreg)) (hk : k.Ends Q) : (checkArchreg a s k).Ends Q :=
  .ite (fun _ => hk) fun _ => hs

theorem checkLive_ends {c : BitVec 8} {b : Buf} {i g : Word} (hs : Q s .stale) (hk : k.Ends Q) :
    (checkLive c b i g s k).Ends Q := .ite (fun _ => hk) fun _ => hs

theorem checkLiveOn_ends {core c : BitVec 8} {b : Buf} {i g : Word} (hs : Q s .stale) (hk : k.Ends Q) :
    (checkLiveOn core c b i g s k).Ends Q := .ite (fun _ => hk) fun _ => hs

theorem checkHandle_ends {c : BitVec 8} {b : Buf} {i g : Word} (hid : Q s (.illegal .badId))
    (hindex : Q s (.illegal .badIndex)) (hstale : Q s .stale) (hk : k.Ends Q) : (checkHandle c b i g s k).Ends Q :=
  checkCtx_ends hid (checkAttached_ends (checkSlot_ends hindex (checkLive_ends hstale hk)))

end Checks

/-- A command that leaves the latch clear ends in its body's response. -/
theorem perform_unlatched {i : Instr} {s t : State} {b : Ran} (h : perform i s b = .next t) (hl : t.latch.set = false) :
    ∃ s' r, b = .done s' r ∧ t = s'.answer r := by
  obtain ⟨hs, rfl⟩ | ⟨_, s', r, hb, ht⟩ | ⟨_, s', d, _, rfl⟩ := perform_cases i s b t h
  · rw [State.answer_latch, hs] at hl
    cases hl
  · exact ⟨s', r, hb, ht⟩
  · rw [State.raiseFatal_latch] at hl
    cases hl

/-- A command that leaves the latch clear ends as its body does. -/
theorem perform_ends {i : Instr} {s t : State} {b : Ran} {Q : State → Response → Prop} (h : perform i s b = .next t)
    (hl : t.latch.set = false) (hb : b.Ends Q) : ∃ s' r, Q s' r ∧ t = s'.answer r := by
  obtain ⟨s', r, rfl, ht⟩ := perform_unlatched h hl
  exact ⟨s', r, hb, ht⟩

/-! ### The shared operations keep the counter -/

@[simp] theorem removeFromAllQueues_nextSeq (s : State) (k c : Nat) (b : Buf) (i : Nat) :
    (removeFromAllQueues k c b i s).eng.nextSeq = s.eng.nextSeq := rfl

@[simp] theorem takeIqSlot_nextSeq (s : State) (k c : Nat) : (takeIqSlot k c s).eng.nextSeq = s.eng.nextSeq := rfl

@[simp] theorem releaseIqSlot_nextSeq (s : State) (c : Nat) (b : Buf) (i : Nat) :
    (releaseIqSlot c b i s).eng.nextSeq = s.eng.nextSeq := by
  obtain ⟨_, h⟩ | ⟨_, h⟩ := releaseIqSlot_cases c b i s
  · rw [h]
  · rw [h]
    rfl

theorem squashPartner_nextSeq {c : Nat} {e : Entry} {s s' : State} (h : squashPartner c e s = .ok s') :
    s'.eng.nextSeq = s.eng.nextSeq := by
  obtain ⟨_, rfl⟩ | ⟨_, _, _, _, rfl⟩ := squashPartner_ok c e s s' h
  · rfl
  · rw [State.updCtx_eng, removeFromAllQueues_nextSeq]
    split <;> rfl

theorem restoreDest_nextSeq {c : Nat} {e : Entry} {s s' : State} (h : restoreDest c e s = .ok s') :
    s'.eng.nextSeq = s.eng.nextSeq := by
  obtain ⟨_, rfl⟩ | ⟨_, _, _, rfl⟩ := restoreDest_ok c e s s' h <;> rfl

theorem squashEntry_nextSeq {c : Nat} {s s' : State} (h : squashEntry c s = .ok s') : s'.eng.nextSeq = s.eng.nextSeq := by
  obtain ⟨s1, s2, hpartner, hdest, rfl⟩ := squashEntry_ok c s s' h
  calc s2.eng.nextSeq
      = s1.eng.nextSeq := by simpa using restoreDest_nextSeq hdest
    _ = s.eng.nextSeq := squashPartner_nextSeq hpartner

/-- "It is never rewound, not even by rollback" (10_state.md R52). -/
theorem squashMany_nextSeq {c n : Nat} {s s' : State} (h : squashMany c n s = .ok s') : s'.eng.nextSeq = s.eng.nextSeq :=
  squashMany_induct c (fun u => u.eng.nextSeq = s.eng.nextSeq) (fun _ _ hu hstep => (squashEntry_nextSeq hstep).trans hu)
    n s s' rfl h

theorem afterRollback_nextSeq (c t n : Nat) (m : Bool) (s : State) :
    (afterRollback c t m n s).eng.nextSeq = s.eng.nextSeq := by
  cases m <;> rfl

theorem flushBody_nextSeq {c : Nat} {s s' : State} (h : flushBody c s = .ok s') : s'.eng.nextSeq = s.eng.nextSeq := by
  obtain ⟨s1, hsquash, _, rfl⟩ := flushBody_ok c s s' h
  calc (flushFinish c (s.ctx c).robRing.num (flushPc (s.ctx c)) s1).eng.nextSeq
      = s1.eng.nextSeq := rfl
    _ = s.eng.nextSeq := squashMany_nextSeq hsquash

theorem leaseOne_nextSeq (c k a : Nat) (s : State) : (leaseOne c k a s).eng.nextSeq = s.eng.nextSeq := by
  unfold leaseOne
  split <;> rfl

theorem lease_nextSeq (c k : Nat) (s : State) : (lease c k s).eng.nextSeq = s.eng.nextSeq := by
  unfold lease
  exact List.foldlRecOn (motive := fun u : State => u.eng.nextSeq = s.eng.nextSeq) _ _ rfl
    fun u hu a _ => (leaseOne_nextSeq c k a u).trans hu

theorem admitTo_nextSeq {c k : Nat} {s s' : State} (h : admitTo c k s = .ok s') : s'.eng.nextSeq = s.eng.nextSeq := by
  obtain ⟨_, _, _, _, hs'⟩ := admit_ok c k s s' h
  rw [hs', lease_nextSeq]
  rfl

theorem returnRegs_nextSeq (c : Nat) (s : State) : (returnRegs c s).eng.nextSeq = s.eng.nextSeq :=
  List.foldlRecOn (motive := fun u : State => u.eng.nextSeq = s.eng.nextSeq) _ _ rfl fun _ hu _ _ => hu

theorem evict_nextSeq {c : Nat} {s s' : State} (h : evict c s = .ok s') : s'.eng.nextSeq = s.eng.nextSeq := by
  obtain ⟨_, rfl⟩ := evict_ok c s s' h
  exact returnRegs_nextSeq c s

theorem commitReg_nextSeq {k : Nat} {e : Entry} {s s' : State} (h : commitReg k e s = .ok s') :
    s'.eng.nextSeq = s.eng.nextSeq := by
  obtain ⟨_, rfl⟩ | ⟨_, _, _, _, _, _, rfl⟩ := commitReg_ok k e s s' h <;> rfl

theorem retireHead_nextSeq (c : Nat) (e : Entry) (s : State) : (retireHead c e s).eng.nextSeq = s.eng.nextSeq := by
  unfold retireHead
  cases e.eaComp <;> rfl

/-! ### No command but DISPATCH changes the counter -/

/-- The postcondition of a body that keeps the sequence counter of `s`. -/
abbrev SeqKept (s : State) : State → Response → Prop := fun s' _ => s'.eng.nextSeq = s.eng.nextSeq

theorem statusBody_seqKept {c : BitVec 8} {b : Buf} {slot gen : Word} {s : State} {f : Entry → Option Entry}
    {k : State → State} (hk : ∀ u, (k u).eng.nextSeq = u.eng.nextSeq) : (statusBody c b slot gen s f k).Ends (SeqKept s) := by
  refine checkHandle_ends rfl rfl rfl ?_
  split
  · trivial
  · exact hk _

/-- Each arm goes through its command's checks in the order of 60_exceptions.md R368, then through the operations of its body. -/
theorem exec_nextSeq_of_ne_dispatch {i : Instr} {s t : State} (h : exec i s = .next t) (hl : t.latch.set = false)
    (hi : ∀ c p, i ≠ .dispatch c p) : t.eng.nextSeq = s.eng.nextSeq := by
  suffices hkept : ∃ s' r, SeqKept s s' r ∧ t = s'.answer r by
    obtain ⟨s', r, hs', rfl⟩ := hkept
    exact hs'
  cases i with
  | nop => exact perform_ends (i := .nop) (b := .done s (.ok [])) h hl rfl
  | dispatch c p => exact absurd rfl (hi c p)
  | markQueued c b slot gen => exact perform_ends h hl (statusBody_seqKept fun _ => rfl)
  | issue c b slot gen => exact perform_ends h hl (statusBody_seqKept fun u => releaseIqSlot_nextSeq u _ _ _)
  | complete c b slot gen => exact perform_ends h hl (statusBody_seqKept fun _ => rfl)
  | commit c =>
    refine perform_ends h hl (checkCtx_ends rfl (checkAttached_ends (.ite (fun _ => rfl) fun _ =>
      .ite (fun _ => ?_) fun _ => rfl)))
    split
    · trivial
    · exact rfl
    · exact .after fun s1 hreg => (retireHead_nextSeq _ _ _).trans (commitReg_nextSeq hreg)
  | rollbackTo c m slot gen =>
    exact perform_ends h hl (checkHandle_ends rfl rfl rfl (.after fun s1 hsquash =>
      (afterRollback_nextSeq _ _ _ _ _).trans (squashMany_nextSeq hsquash)))
  | flushContext c =>
    exact perform_ends h hl (checkCtx_ends rfl (checkAttached_ends (.after fun s1 => flushBody_nextSeq)))
  | addContext c k =>
    refine perform_ends h hl (checkCtx_ends rfl (checkCore_ends rfl (.ite (fun _ => trivial) fun _ => ?_)))
    split
    · exact rfl
    · exact admitTo_nextSeq ‹_›
  | ejectContext c => exact perform_ends h hl (checkCtx_ends rfl (checkAttached_ends (.after fun s1 => evict_nextSeq)))
  | transferContext c k =>
    refine perform_ends h hl (checkCtx_ends rfl (checkCore_ends rfl (checkAttached_ends (.after fun s1 hflush =>
      .after fun s2 hevict => ?_))))
    have hs2 : s2.eng.nextSeq = s.eng.nextSeq := (evict_nextSeq hevict).trans (flushBody_nextSeq hflush)
    split
    · exact hs2
    · exact (admitTo_nextSeq ‹_›).trans hs2
  | findFreePhysreg k q =>
    refine perform_ends h hl (checkCore_ends rfl (checkBank_ends rfl fun b => ?_))
    split <;> exact rfl
  | prfSetReady k q index ready spec =>
    exact perform_ends h hl (checkCore_ends rfl (checkBank_ends rfl fun b => checkReg_ends rfl
      (.ite (fun _ => rfl) fun _ => trivial)))
  | prfRead k q index =>
    exact perform_ends h hl (checkCore_ends rfl (checkBank_ends rfl fun b => checkReg_ends rfl rfl))
  | renameRead c a => exact perform_ends h hl (checkCtx_ends rfl (checkAttached_ends (checkArchreg_ends rfl rfl)))
  | wqInsert k c q b slot gen key =>
    exact perform_ends h hl (checkCore_ends rfl (checkCtx_ends rfl (checkQueueSlot_ends rfl (checkLiveOn_ends rfl
      (.ite (fun _ => trivial) fun _ => rfl)))))
  | wqPop k q =>
    refine perform_ends h hl (checkCore_ends rfl ?_)
    split <;> exact rfl
  | wqRemove k c q b slot gen =>
    refine perform_ends h hl (checkCore_ends rfl (checkCtx_ends rfl (checkQueueSlot_ends rfl (checkLiveOn_ends rfl ?_))))
    dsimp only
    split <;> exact rfl
  | ifqPush c pc payload =>
    exact perform_ends h hl (checkCtx_ends rfl (checkAttached_ends (.ite (fun _ => rfl) fun _ => rfl)))
  | ifqPop c => exact perform_ends h hl (checkCtx_ends rfl (checkAttached_ends (.ite (fun _ => rfl) fun _ => rfl)))
  | wregRead c a => exact perform_ends h hl (checkCtx_ends rfl (checkArchreg_ends rfl rfl))
  | wregWrite c a v => exact perform_ends h hl (checkCtx_ends rfl (checkArchreg_ends rfl rfl))
  | setFetchPc c pc => exact perform_ends h hl (checkCtx_ends rfl rfl)
  | entryRead c b slot =>
    exact perform_ends h hl (checkCtx_ends rfl (checkAttached_ends (checkSlot_ends rfl
      (.ite (fun _ => rfl) fun _ => rfl))))
  | ctxStatus c => exact perform_ends h hl (checkCtx_ends rfl rfl)
  | coreStatus k => exact perform_ends h hl (checkCore_ends rfl rfl)
  | fatalStatus =>
    cases h
    exact ⟨s, _, rfl, rfl⟩

/-! ### What DISPATCH does to the counter -/

/-- The allocation step of DISPATCH takes nothing, or takes a register. -/
theorem dispatchDest_cases (c a : Nat) (kl : Config.OpClass) (s : State) :
    dispatchDest c kl a s = (s, none)
      ∨ ∃ s' p old, allocPhysreg c a s = some (s', p, old) ∧ dispatchDest c kl a s = (s', some (p, old)) := by
  unfold dispatchDest
  split
  · exact .inl rfl
  · split
    · exact .inl rfl
    · exact .inr ⟨_, _, _, ‹_›, rfl⟩

/-- The allocation step of DISPATCH numbers nothing and appends nothing. -/
theorem dispatchDest_nextSeq_robRing (c a : Nat) (kl : Config.OpClass) (s : State) :
    (dispatchDest c kl a s).1.eng.nextSeq = s.eng.nextSeq
      ∧ ((dispatchDest c kl a s).1.ctx c).robRing = (s.ctx c).robRing := by
  obtain h | ⟨s', p, old, halloc, h⟩ := dispatchDest_cases c a kl s
  · rw [h]
    exact ⟨rfl, rfl⟩
  · obtain ⟨_, _, rfl⟩ := allocPhysreg_some c a s s' p old halloc
    rw [h]
    exact ⟨rfl, by rw [State.updCtx_ctx_same, State.setReg_ctx]⟩

@[simp] theorem takeIqSlot_robRing (k c : Nat) (s : State) : ((takeIqSlot k c s).ctx c).robRing = (s.ctx c).robRing := by
  simp [takeIqSlot]

theorem Context.entry_rob_appendRob_tail {x : Context} {i : Nat} (e : Entry) (hi : x.robRing.tail = i) :
    (x.appendRob e).entry .rob i = e := by
  subst hi
  exact Table.get_put_same _ _ _ _

@[simp] theorem Context.entry_rob_appendLsq (x : Context) (e : Entry) (i : Nat) :
    (x.appendLsq e).entry .rob i = x.entry .rob i := rfl

theorem dispatchWrite_nextSeq (c : Nat) (kl : Config.OpClass) (p : DispatchWords) (s : State) :
    (dispatchWrite c kl p s).eng.nextSeq = s.eng.nextSeq + 1 := by
  have hdest := (dispatchDest_nextSeq_robRing c p.archreg.toNat kl s).1
  unfold dispatchWrite
  cases isMem kl <;> simp [hdest]

/-- The new ROB entry stands in the slot that was the tail. -/
theorem dispatchWrite_entry_tail (c : Nat) (kl : Config.OpClass) (p : DispatchWords) (s : State) :
    ((dispatchWrite c kl p s).ctx c).entry .rob (s.ctx c).robRing.tail
      = robEntryOf kl p s.eng.nextSeq (dispatchDest c kl p.archreg.toNat s).2 := by
  have hdest := (dispatchDest_nextSeq_robRing c p.archreg.toNat kl s).2
  unfold dispatchWrite
  cases isMem kl <;> simp [Context.entry_rob_appendRob_tail, hdest]

/-- DISPATCH writes nothing and does not answer OK, or makes all its writes and answers their words. -/
theorem dispatchBody_ends (c : BitVec 8) (p : DispatchWords) (s : State) :
    (dispatchBody c p s).Ends fun s' r =>
      (s' = s ∧ r.status ≠ .ok)
        ∨ (s' = dispatchWrite c.toNat (classify s.cfg p.opcode) p s
            ∧ r = .ok (dispatchWords c.toNat (classify s.cfg p.opcode) p s)) := by
  refine checkCtx_ends (.inl ⟨rfl, by decide⟩) (checkAttached_ends (.ite (fun _ => .inl ⟨rfl, by decide⟩) fun _ =>
    .ite (fun _ => .inl ⟨rfl, by decide⟩) fun _ => ?_))
  split
  · exact .inl ⟨rfl, nofun⟩
  · exact .inr ⟨rfl, rfl⟩

/-- Settles O18: by the command, DISPATCH apart from all others. -/
theorem sequenceCounterNeverRewound : Obligations.SequenceCounterNeverRewound := by
  intro i s t h hl
  by_cases hi : ∃ c p, i = .dispatch c p
  · obtain ⟨c, p, rfl⟩ := hi
    obtain ⟨s', r, ⟨rfl, hr⟩ | ⟨rfl, rfl⟩, rfl⟩ := perform_ends h hl (dispatchBody_ends c p s)
    · exact ⟨fun hok => absurd (Option.some.inj hok.2) hr, fun _ => rfl⟩
    · refine ⟨fun _ => ⟨dispatchWrite_nextSeq _ _ _ _, rfl, ?_⟩, fun hno => absurd ⟨⟨c, p, rfl⟩, rfl⟩ hno⟩
      rintro _ _ ⟨⟩
      rw [State.answer_ctx, dispatchWrite_entry_tail]
      rfl
  · exact ⟨fun hok => absurd hok.1 hi, fun _ => exec_nextSeq_of_ne_dispatch h hl fun c p hcp => hi ⟨c, p, hcp⟩⟩

end Sys2Proof.Machine

/-! PROOFS. NOP, SET_FETCH_PC and FATAL_STATUS (45_frontend_query.md R320, R325, R329). -/

namespace Sys2Proof.Machine

/-! ### Every command while the latch is set -/

/-- Step 2 of the check order comes before all others but FATAL_STATUS (60_exceptions.md R368). -/
theorem exec_latched {i : Instr} {s : State} (hi : i ≠ .fatalStatus) (hl : s.latch.set = true) :
    exec i s = .next (s.answer (.fatal s.latch.code)) := by
  obtain ⟨b, hb⟩ := exec_eq_perform i s hi
  rw [hb, perform_latched i s b hl]

/-! ### NOP -/

theorem exec_nop_unlatched {s : State} (hl : s.latch.set = false) : exec .nop s = .next (s.answer (.ok [])) :=
  perform_done .nop s s (.ok []) hl

theorem candidate_of_headerOp_zero {h : Header} (p : Payload) (hop : headerOp h = 0) : candidate h p = some .nop := by
  simp [candidate, hop]

/-- The row of NOP masks no bit away, so only the header 0 matches it. -/
theorem and_nop_mask_eq_bits_iff (h : Header) : h &&& Instr.nop.row.mask = Instr.nop.row.bits ↔ h = 0 := by
  have hmask : h &&& Instr.nop.row.mask = h := BitVec.and_allOnes
  have hbits : Instr.nop.row.bits = 0 := rfl
  rw [hmask, hbits]

theorem decode_of_headerOp_zero {h : Header} (p : Payload) (hop : headerOp h = 0) :
    decode ⟨h, p⟩ = if h = 0 then .ok .nop else .error .reservedBits := by
  simp only [decode, candidate_of_headerOp_zero p hop, and_nop_mask_eq_bits_iff]

/-- Settles O52: the mask of the row leaves no stray bit, and the answer goes by the latch alone. -/
theorem nopDoesNothing : Obligations.NopDoesNothing :=
  ⟨rfl, fun _ p hop => decode_of_headerOp_zero p hop, rfl, fun _ => ⟨exec_nop_unlatched, exec_latched nofun⟩⟩

/-! ### SET_FETCH_PC -/

theorem exec_setFetchPc_unlatched {s : State} {c : BitVec 8} (pc : Word) (hl : s.latch.set = false)
    (hc : c.toNat < s.cfg.numContexts) :
    exec (.setFetchPc c pc) s
      = .next ((s.updCtx c.toNat (fun x => { x with fetchPc := pc })).answer (.ok [])) :=
  (congrArg (perform _ s) (checkCtx_pass c s _ hc)).trans (perform_done _ s _ _ hl)

/-- CTX_STATUS reads `fetch_pc` back as d14 (45_frontend_query.md R327). -/
theorem Context.statusWords_fetchPc (x : Context) : x.statusWords[14]? = some x.fetchPc := rfl

/-- Settles O55: the state the command ends in is the one update, whose frame the laws of `updCtx` give. -/
theorem setFetchPcWritesFetchPc : Obligations.SetFetchPcWritesFetchPc := by
  intro s c pc
  refine ⟨rfl, fun hl hc => ⟨_, exec_setFetchPc_unlatched pc hl hc, rfl, ?_⟩⟩
  have hctx := State.updCtx_ctx_same s c.toNat (fun x => { x with fetchPc := pc })
  rw [State.answer_ctx, hctx, Context.statusWords_fetchPc]
  refine ⟨rfl, rfl, fun j hj => ?_, fun _ => rfl, rfl, rfl, rfl, rfl, rfl, rfl, rfl⟩
  rw [State.answer_ctx, State.updCtx_ctx_ne _ _ hj]

/-! ### FATAL_STATUS -/

theorem exec_fatalStatus (s : State) : exec .fatalStatus s = .next (s.answer (.ok s.latch.words)) := rfl

theorem FatalLatch.words_reset : FatalLatch.reset.words = [0, 0, 0] := rfl

/-- The high part of two joined words counts in units of the low part's width. -/
theorem toNat_append_eq_add {m n : Nat} (x : BitVec m) (y : BitVec n) :
    (x ++ y).toNat = x.toNat * 2 ^ n + y.toNat := by
  rw [BitVec.toNat_append, ← Nat.shiftLeft_add_eq_or_of_lt y.isLt, Nat.shiftLeft_eq]

/-- The word d0 of FATAL_STATUS as a number: bit 0 `set`, bits 15:8 the code (45_frontend_query.md R329). -/
theorem FatalLatch.statusWord_eq_ofNat (code : BitVec 8) (set : Bool) :
    (0 : BitVec 48) ++ code ++ (0 : BitVec 7) ++ BitVec.ofBool set = BitVec.ofNat 64 (code.toNat * 2 ^ 8 + set.toNat) := by
  apply BitVec.eq_of_toNat_eq
  have hcode : code.toNat < 2 ^ 8 := code.isLt
  have hset : set.toNat < 2 := set.toNat_lt
  simp only [toNat_append_eq_add, BitVec.toNat_ofBool, BitVec.ofNat_eq_ofNat, BitVec.toNat_ofNat]
  omega

theorem FatalLatch.words_eq_ofNat (f : FatalLatch) :
    f.words = [BitVec.ofNat 64 (f.code.toNat * 2 ^ 8 + f.set.toNat), BitVec.ofNat 64 f.header.toNat, f.now] := by
  rw [FatalLatch.words, FatalLatch.statusWord_eq_ofNat, BitVec.ofNat_toNat]

/-- Settles O58: FATAL_STATUS answers the words of the latch in every state, and `exec_latched` covers every other command. -/
theorem fatalStatusAnswersLatch : Obligations.FatalStatusAnswersLatch := by
  refine ⟨rfl, rfl, fun s => ⟨?_, fun hlatch hl => ?_, fun hl i hi => ⟨_, exec_latched hi hl, rfl⟩⟩⟩
  · rw [exec_fatalStatus, FatalLatch.words_eq_ofNat]
  · rw [exec_fatalStatus, hlatch hl, FatalLatch.words_reset]

end Sys2Proof.Machine

/-! PROOFS. The fatal latch (60_exceptions.md R364): what a latched engine answers, and what leaves the latch as it is. -/

namespace Sys2Proof.Machine

theorem rejectHeader_latched {s : State} (e : DecodeError) (hl : s.latch.set = true) :
    rejectHeader e s = s.answer (.fatal s.latch.code) := if_pos hl

@[simp] theorem rejectHeader_latch (e : DecodeError) (s : State) : (rejectHeader e s).latch = s.latch := by
  unfold rejectHeader
  split <;> rfl

/-- FATAL_STATUS only reads the latch, and every other command answers it. -/
theorem exec_keeps_latch_of_latched {i : Instr} {s t : State} (hl : s.latch.set = true) (h : exec i s = .next t) :
    t.latch = s.latch := by
  by_cases hi : i = .fatalStatus
  · subst hi
    cases (exec_fatalStatus s).symm.trans h
    rfl
  · cases (exec_latched hi hl).symm.trans h
    rfl

/-- Any input but the reset input leaves a set latch as it is, by the five kinds of step. -/
theorem step_keeps_latch_of_latched {s t : State} (hl : s.latch.set = true) (h : step s = .next t) :
    t.latch = s.latch ∨ ∃ rest, s.port = .reset :: rest := by
  obtain ⟨_, rfl⟩ | ⟨_, w, rest, _, _, _, hexec⟩ | ⟨_, _, _, _, _, _, rfl⟩ | ⟨rest, hport, _⟩ | ⟨_, _, _, _, rfl⟩ :=
    step_cases s t h
  case inl => exact .inl rfl
  case inr.inl => exact .inl (exec_keeps_latch_of_latched (s := s.accept rest w) hl hexec)
  case inr.inr.inl => exact .inl (rejectHeader_latch _ _)
  case inr.inr.inr.inl => exact .inr ⟨rest, hport⟩
  case inr.inr.inr.inr => exact .inl rfl

/-- Settles O13: `exec_latched` and `rejectHeader_latched` answer every command, and `step_keeps_latch_of_latched` leaves the
reset input as the only step to a clear latch. -/
theorem fatalLatchHolds : Obligations.FatalLatchHolds := by
  intro s hl
  refine ⟨fun i hi => exec_latched hi hl, fun c w rest e hport hdecode => ?_, fun t hstep hclear => ?_,
    fun rest hport => ⟨_, step_reset s rest hport, rfl⟩⟩
  · rw [step_rejected s c w rest e hport hdecode, rejectHeader_latched (s := s.accept rest w) e hl]
    rfl
  · refine (step_keeps_latch_of_latched hl hstep).resolve_left fun hkept => ?_
    rw [hkept, hl] at hclear
    cases hclear

end Sys2Proof.Machine

/-! PROOFS. The encoding of the command port (30_encoding.md R111 to R115): the fields of a header word, the encoder and
the decoder inverse to each other, and a header that is no command. -/

namespace Sys2Proof

open Sys2Proof.Machine Sys2Proof.Safety

/-! ### The fields of a header word (30_encoding.md R111) -/

/-- A header word as a number, its fields in their places. -/
theorem headerOf_toNat (k c : BitVec 8) (b : BitVec 1) (q : BitVec 2) (o : BitVec 6) :
    (headerOf k c b q o).toNat
      = k.toNat * 2 ^ 24 + c.toNat * 2 ^ 16 + b.toNat * 2 ^ 8 + q.toNat * 2 ^ 6 + o.toNat := by
  simp only [headerOf, toNat_append_eq_add, BitVec.ofNat_eq_ofNat, BitVec.toNat_ofNat]
  omega

section Fields

variable (k c : BitVec 8) (b : BitVec 1) (q : BitVec 2) (o : BitVec 6)

@[simp] theorem headerOp_headerOf : headerOp (headerOf k c b q o) = o := by
  apply BitVec.eq_of_toNat_eq
  rw [headerOp, BitVec.extractLsb'_toNat, headerOf_toNat, Nat.shiftRight_eq_div_pow]
  omega

@[simp] theorem headerQ_headerOf : headerQ (headerOf k c b q o) = q := by
  apply BitVec.eq_of_toNat_eq
  rw [headerQ, BitVec.extractLsb'_toNat, headerOf_toNat, Nat.shiftRight_eq_div_pow]
  omega

@[simp] theorem headerB_headerOf : headerB (headerOf k c b q o) = b := by
  apply BitVec.eq_of_toNat_eq
  rw [headerB, BitVec.extractLsb'_toNat, headerOf_toNat, Nat.shiftRight_eq_div_pow]
  omega

@[simp] theorem headerCtx_headerOf : headerCtx (headerOf k c b q o) = c := by
  apply BitVec.eq_of_toNat_eq
  rw [headerCtx, BitVec.extractLsb'_toNat, headerOf_toNat, Nat.shiftRight_eq_div_pow]
  omega

@[simp] theorem headerCore_headerOf : headerCore (headerOf k c b q o) = k := by
  apply BitVec.eq_of_toNat_eq
  rw [headerCore, BitVec.extractLsb'_toNat, headerOf_toNat, Nat.shiftRight_eq_div_pow]
  omega

end Fields

/-- The reserved bits 15:9 of a header. -/
def headerReserved (h : Header) : BitVec 7 := h.extractLsb' 9 7

/-- A header whose reserved bits are 0 is made of its fields. -/
theorem headerOf_fields {h : Header} (hres : headerReserved h = 0) :
    headerOf (headerCore h) (headerCtx h) (headerB h) (headerQ h) (headerOp h) = h := by
  apply BitVec.eq_of_toNat_eq
  have hres' := congrArg BitVec.toNat hres
  simp only [headerReserved, BitVec.extractLsb'_toNat, Nat.shiftRight_eq_div_pow, BitVec.ofNat_eq_ofNat,
    BitVec.toNat_ofNat] at hres'
  simp only [headerOf_toNat, headerCore, headerCtx, headerB, headerQ, headerOp, BitVec.extractLsb'_toNat,
    Nat.shiftRight_eq_div_pow]
  omega

@[simp] theorem Buf.ofBit_bit (b : Buf) : Buf.ofBit b.bit = b := by cases b <;> rfl

@[simp] theorem Buf.bit_ofBit (b : BitVec 1) : (Buf.ofBit b).bit = b := by revert b; decide

@[simp] theorem Queue.ofBits_bits (q : Queue) : Queue.ofBits q.bits = q := by cases q <;> rfl

@[simp] theorem Queue.bits_ofBits (q : BitVec 2) : (Queue.ofBits q).bits = q := by revert q; decide

@[simp] theorem flagOfBit_flagBit (m : Bool) : flagOfBit (flagBit m) = m := by cases m <;> rfl

@[simp] theorem flagBit_flagOfBit (b : BitVec 1) : flagBit (flagOfBit b) = b := by revert b; decide

/-! ### Decoding an encoded command -/

/-- The header of every command is the `match` value of its row under the row's `mask`. -/
theorem header_matches_row (i : Instr) : i.header &&& i.row.mask = i.row.bits := by
  cases i with
  | nop => exact Laws.RowMatch.nop
  | dispatch c p => exact Laws.RowMatch.dispatch c p
  | markQueued c b slot gen => exact Laws.RowMatch.markQueued c b slot gen
  | issue c b slot gen => exact Laws.RowMatch.issue c b slot gen
  | complete c b slot gen => exact Laws.RowMatch.complete c b slot gen
  | commit c => exact Laws.RowMatch.commit c
  | rollbackTo c m slot gen => exact Laws.RowMatch.rollbackTo c m slot gen
  | flushContext c => exact Laws.RowMatch.flushContext c
  | addContext c k => exact Laws.RowMatch.addContext c k
  | ejectContext c => exact Laws.RowMatch.ejectContext c
  | transferContext c k => exact Laws.RowMatch.transferContext c k
  | findFreePhysreg k q => exact Laws.RowMatch.findFreePhysreg k q
  | prfSetReady k q p r t => exact Laws.RowMatch.prfSetReady k q p r t
  | prfRead k q p => exact Laws.RowMatch.prfRead k q p
  | renameRead c a => exact Laws.RowMatch.renameRead c a
  | wqInsert k c q b slot gen t => exact Laws.RowMatch.wqInsert k c q b slot gen t
  | wqPop k q => exact Laws.RowMatch.wqPop k q
  | wqRemove k c q b slot gen => exact Laws.RowMatch.wqRemove k c q b slot gen
  | ifqPush c pc w => exact Laws.RowMatch.ifqPush c pc w
  | ifqPop c => exact Laws.RowMatch.ifqPop c
  | wregRead c a => exact Laws.RowMatch.wregRead c a
  | wregWrite c a v => exact Laws.RowMatch.wregWrite c a v
  | setFetchPc c pc => exact Laws.RowMatch.setFetchPc c pc
  | entryRead c b slot => exact Laws.RowMatch.entryRead c b slot
  | ctxStatus c => exact Laws.RowMatch.ctxStatus c
  | coreStatus k => exact Laws.RowMatch.coreStatus k
  | fatalStatus => exact Laws.RowMatch.fatalStatus

/-- `OP` and the fields of a command's header, with its payload, name that command. -/
theorem candidate_encode (i : Instr) : candidate i.header i.payload = some i := by
  cases i <;> simp [candidate, Instr.header, Instr.payload, Instr.row, Payload.ofWords]

/-- The decoder's answer in one line each way. -/
theorem decode_eq_ok_iff (c : Command) (i : Instr) :
    decode c = .ok i ↔ candidate c.header c.payload = some i ∧ c.header &&& i.row.mask = i.row.bits := by
  unfold decode
  cases candidate c.header c.payload with
  | none => simp
  | some j =>
    dsimp only
    split
    · constructor
      · rintro ⟨⟩
        exact ⟨rfl, ‹_›⟩
      · rintro ⟨⟨⟩, _⟩
        rfl
    · constructor
      · rintro ⟨⟩
      · rintro ⟨⟨⟩, h⟩
        exact absurd h ‹_›

/-- Settles O1: the fields read back, and the header lies in the command's row. -/
theorem decodeOfEncode : Obligations.DecodeOfEncode :=
  fun i => (decode_eq_ok_iff _ _).mpr ⟨candidate_encode i, header_matches_row i⟩

/-! ### What a header that decodes looks like -/

/-- A field under a mask of ones. -/
theorem eq_zero_of_and_eq_zero {w : Nat} {x m : BitVec w} (h : x &&& m = 0) (hm : m = BitVec.allOnes w) : x = 0 := by
  rwa [hm, BitVec.and_allOnes] at h

theorem fields_of_op : ∀ o : BitVec 6,
    headerReserved (o.setWidth 32) = 0 ∧ headerCore (o.setWidth 32) = 0 ∧ headerCtx (o.setWidth 32) = 0
      ∧ headerB (o.setWidth 32) = 0 ∧ headerQ (o.setWidth 32) = 0 := by decide

/-- In a header that is `OP` alone under a mask, every other field that the mask selects is 0. -/
theorem fields_of_match {h mask : Header} {o : BitVec 6} (hm : h &&& mask = o.setWidth 32) :
    (headerReserved mask = BitVec.allOnes 7 → headerReserved h = 0)
      ∧ (headerCore mask = BitVec.allOnes 8 → headerCore h = 0) ∧ (headerCtx mask = BitVec.allOnes 8 → headerCtx h = 0)
      ∧ (headerB mask = BitVec.allOnes 1 → headerB h = 0) ∧ (headerQ mask = BitVec.allOnes 2 → headerQ h = 0) := by
  obtain ⟨hr, hk, hc, hb, hq⟩ := fields_of_op o
  rw [← hm] at hr hk hc hb hq
  simp only [headerCore, headerCtx, headerReserved, headerB, headerQ, BitVec.extractLsb'_and] at hr hk hc hb hq ⊢
  exact ⟨eq_zero_of_and_eq_zero hr, eq_zero_of_and_eq_zero hk, eq_zero_of_and_eq_zero hc, eq_zero_of_and_eq_zero hb,
    eq_zero_of_and_eq_zero hq⟩

/-- The command that `OP` names belongs to the row of that `OP`. -/
theorem candidate_row_op {h : Header} {p : Payload} {i : Instr} (hc : candidate h p = some i) : headerOp h = i.row.op := by
  apply BitVec.eq_of_toNat_eq
  unfold candidate at hc
  split at hc <;> cases hc
  all_goals
    rename_i hop
    exact hop

section Masks

variable {h : Header} {o : BitVec 6}

/-- The rows that use no field select every field. -/
theorem fields_of_fullMask (hm : h &&& 0xFFFFFFFF = o.setWidth 32) :
    headerReserved h = 0 ∧ headerCore h = 0 ∧ headerCtx h = 0 ∧ headerB h = 0 ∧ headerQ h = 0 := by
  obtain ⟨hr, hk, hx, hb, hq⟩ := fields_of_match hm
  exact ⟨hr (by decide), hk (by decide), hx (by decide), hb (by decide), hq (by decide)⟩

/-- The rows that use `CTX` alone. -/
theorem fields_of_ctxMask (hm : h &&& 0xFF00FFFF = o.setWidth 32) :
    headerReserved h = 0 ∧ headerCore h = 0 ∧ headerB h = 0 ∧ headerQ h = 0 := by
  obtain ⟨hr, hk, _, hb, hq⟩ := fields_of_match hm
  exact ⟨hr (by decide), hk (by decide), hb (by decide), hq (by decide)⟩

/-- The rows that use `CTX` and `B`. -/
theorem fields_of_bufferMask (hm : h &&& 0xFF00FEFF = o.setWidth 32) :
    headerReserved h = 0 ∧ headerCore h = 0 ∧ headerQ h = 0 := by
  obtain ⟨hr, hk, _, _, hq⟩ := fields_of_match hm
  exact ⟨hr (by decide), hk (by decide), hq (by decide)⟩

/-- The rows that use `CTX` and `CORE`. -/
theorem fields_of_pairMask (hm : h &&& 0x0000FFFF = o.setWidth 32) :
    headerReserved h = 0 ∧ headerB h = 0 ∧ headerQ h = 0 := by
  obtain ⟨hr, _, _, hb, hq⟩ := fields_of_match hm
  exact ⟨hr (by decide), hb (by decide), hq (by decide)⟩

/-- The rows that use `CORE` and `Q`. -/
theorem fields_of_bankMask (hm : h &&& 0x00FFFF3F = o.setWidth 32) :
    headerReserved h = 0 ∧ headerCtx h = 0 ∧ headerB h = 0 := by
  obtain ⟨hr, _, hx, hb, _⟩ := fields_of_match hm
  exact ⟨hr (by decide), hx (by decide), hb (by decide)⟩

/-- The rows that use every field. -/
theorem fields_of_handleMask (hm : h &&& 0x0000FE3F = o.setWidth 32) : headerReserved h = 0 :=
  (fields_of_match hm).1 (by decide)

/-- The row that uses `CORE` alone. -/
theorem fields_of_coreMask (hm : h &&& 0x00FFFFFF = o.setWidth 32) :
    headerReserved h = 0 ∧ headerCtx h = 0 ∧ headerB h = 0 ∧ headerQ h = 0 := by
  obtain ⟨hr, _, hx, hb, hq⟩ := fields_of_match hm
  exact ⟨hr (by decide), hx (by decide), hb (by decide), hq (by decide)⟩

end Masks

theorem eq_headerOf {h : Header} {k c : BitVec 8} {b : BitVec 1} {q : BitVec 2} {o : BitVec 6} (hop : headerOp h = o)
    (hres : headerReserved h = 0) (hk : headerCore h = k) (hc : headerCtx h = c) (hb : headerB h = b) (hq : headerQ h = q) :
    h = headerOf k c b q o := by
  subst hop hk hc hb hq
  exact (headerOf_fields hres).symm

/-- A header in the row of the command that its `OP` and fields name is that command's header: the mask leaves no other
field (30_encoding.md R112, R113). -/
theorem header_eq_of_candidate {h : Header} {p : Payload} {i : Instr} (hc : candidate h p = some i)
    (hm : h &&& i.row.mask = i.row.bits) : h = i.header := by
  have hop := candidate_row_op hc
  unfold candidate at hc
  split at hc <;> cases hc
  case h_1 | h_27 =>
    obtain ⟨hr, hk, hx, hb, hq⟩ := fields_of_fullMask hm
    exact eq_headerOf hop hr hk hx hb hq
  case h_3 | h_4 | h_5 | h_24 =>
    obtain ⟨hr, hk, hq⟩ := fields_of_bufferMask hm
    exact eq_headerOf hop hr hk rfl (Buf.bit_ofBit _).symm hq
  case h_7 =>
    obtain ⟨hr, hk, hq⟩ := fields_of_bufferMask hm
    exact eq_headerOf hop hr hk rfl (flagBit_flagOfBit _).symm hq
  case h_9 | h_11 =>
    obtain ⟨hr, hb, hq⟩ := fields_of_pairMask hm
    exact eq_headerOf hop hr rfl rfl hb hq
  case h_12 | h_13 | h_14 =>
    obtain ⟨hr, hx, hb⟩ := fields_of_bankMask hm
    exact eq_headerOf hop hr rfl hx hb rfl
  case h_17 =>
    obtain ⟨hr, hx, hb⟩ := fields_of_bankMask hm
    exact eq_headerOf hop hr rfl hx hb (Queue.bits_ofBits _).symm
  case h_16 | h_18 =>
    exact eq_headerOf hop (fields_of_handleMask hm) rfl rfl (Buf.bit_ofBit _).symm (Queue.bits_ofBits _).symm
  case h_26 =>
    obtain ⟨hr, hx, hb, hq⟩ := fields_of_coreMask hm
    exact eq_headerOf hop hr rfl hx hb hq
  all_goals
    obtain ⟨hr, hk, hb, hq⟩ := fields_of_ctxMask hm
    exact eq_headerOf hop hr hk rfl hb hq

/-- The command that a header names takes as its operands the lanes of its row. -/
theorem candidate_payload {h : Header} {p : Payload} {i : Instr} (hc : candidate h p = some i) :
    i.payload = p.take i.row.payloadWords := by
  unfold candidate at hc
  split at hc <;> cases hc
  all_goals simp [Instr.payload, Instr.row, Payload.take, Payload.ofWords]

/-- The lanes beyond those of its row do not reach the command. -/
theorem candidate_congr {h : Header} {p p' : Payload} {i : Instr} (hc : candidate h p = some i)
    (hp : p'.take i.row.payloadWords = p.take i.row.payloadWords) : candidate h p' = some i := by
  unfold candidate at hc
  split at hc <;> cases hc
  all_goals
    rename_i hop
    simp [Instr.row, Payload.take] at hp
    simp [candidate, hop, hp]

/-- Settles O2: the header is rebuilt from its fields, and the operands are the lanes of the row. -/
theorem decodedHeaderAndLanes : Obligations.DecodedHeaderAndLanes := by
  intro c i hdecode
  obtain ⟨hcand, hmatch⟩ := (decode_eq_ok_iff c i).mp hdecode
  exact ⟨header_eq_of_candidate hcand hmatch, hmatch, candidate_payload hcand, fun p hp =>
    (decode_eq_ok_iff _ i).mpr ⟨candidate_congr hcand hp, hmatch⟩⟩

/-! ### Headers that are no command -/

/-- Exactly the values of `OP` from 27 on are unassigned (30_encoding.md R113). -/
theorem candidate_eq_none_iff (h : Header) (p : Payload) : candidate h p = none ↔ 27 ≤ (headerOp h).toNat := by
  unfold candidate
  generalize (headerOp h).toNat = op
  split
  case h_28 =>
    refine iff_of_true rfl (Nat.le_of_not_lt fun hlt => ?_)
    interval_cases op <;> contradiction
  all_goals exact iff_of_false nofun (by decide)

theorem decode_of_unassigned {c : Command} (hop : 27 ≤ (headerOp c.header).toNat) : decode c = .error .badOpcode := by
  simp only [decode, (candidate_eq_none_iff _ _).mpr hop]

theorem decode_of_stray {c : Command} (hop : (headerOp c.header).toNat < 27) (hstray : ∀ i : Instr, i.header ≠ c.header) :
    decode c = .error .reservedBits := by
  obtain ⟨i, hcand⟩ := Option.ne_none_iff_exists'.mp fun hnone =>
    absurd ((candidate_eq_none_iff c.header c.payload).mp hnone) (Nat.not_le.mpr hop)
  have hmatch : ¬ c.header &&& i.row.mask = i.row.bits := fun hmatch =>
    hstray i (header_eq_of_candidate hcand hmatch).symm
  simp only [decode, hcand, if_neg hmatch]

theorem rejectHeader_unlatched {s : State} (e : DecodeError) (hl : s.latch.set = false) :
    rejectHeader e s = s.answer (.illegal (DecodeError.reason e)) := by
  simp [rejectHeader, hl]

/-- Settles O3: which of the two decode errors a header gives, and what the step does with it. -/
theorem malformedHeaderIsIllegal : Obligations.MalformedHeaderIsIllegal := by
  intro s c w rest hport hl
  have hstep : ∀ e, decode c = .error e →
      step s = .next ((s.accept rest w).answer (.illegal (DecodeError.reason e))) := fun e hdecode => by
    rw [step_rejected s c w rest e hport hdecode, rejectHeader_unlatched (s := s.accept rest w) e hl]
  exact ⟨fun hop => hstep _ (decode_of_unassigned hop), fun hop hstray => hstep _ (decode_of_stray hop hstray)⟩

/-- A header word made of a command's fields decodes to it, with any payload whose lanes hold the command's operands. -/
theorem decode_word {h : Header} {p : Payload} (i : Instr) (k c : BitVec 8) (b : BitVec 1) (q : BitVec 2) (o : BitVec 6)
    (hi : i.header = headerOf k c b q o) (hh : headerOf k c b q o = h)
    (hp : p.take i.row.payloadWords = i.payload.take i.row.payloadWords) : decode ⟨h, p⟩ = .ok i := by
  rw [← hh, ← hi]
  exact (decode_eq_ok_iff _ i).mpr ⟨candidate_congr (candidate_encode i) hp, header_matches_row i⟩

/-- Settles O4: each word is the header of its command, field by field. -/
theorem writtenWordsDecode : Obligations.WrittenWordsDecode := fun p =>
  ⟨decode_word .nop 0 0 0 0 0 rfl (by decide) rfl,
    decode_word (.dispatch 2 _) 0 2 0 0 1 rfl (by decide) rfl,
    decode_word (.markQueued 2 .rob _ _) 0 2 0 0 2 rfl (by decide) rfl,
    decode_word (.issue 1 .lsq _ _) 0 1 1 0 3 rfl (by decide) rfl,
    decode_word (.commit 255) 0 255 0 0 5 rfl (by decide) rfl,
    decode_word (.rollbackTo 0 true _ _) 0 0 1 0 6 rfl (by decide) rfl,
    decode_word (.flushContext 1) 0 1 0 0 7 rfl (by decide) rfl,
    decode_word (.transferContext 3 1) 1 3 0 0 10 rfl (by decide) rfl,
    decode_word (.prfRead 1 1 _) 1 0 0 1 13 rfl (by decide) rfl,
    decode_word (.wqInsert 1 2 .ready .lsq _ _ _) 1 2 1 3 15 rfl (by decide) rfl,
    decode_word (.wqPop 0 .event) 0 0 0 2 16 rfl (by decide) rfl,
    decode_word (.entryRead 3 .rob _) 0 3 0 0 23 rfl (by decide) rfl,
    decode_word (.coreStatus 2) 2 0 0 0 25 rfl (by decide) rfl,
    decode_word .fatalStatus 0 0 0 0 26 rfl (by decide) rfl⟩

/-- Settles O5: `step_command` is the arm of `step` for a command that decodes. -/
theorem stepRunsDecodedCommand : Obligations.StepRunsDecodedCommand :=
  fun s c w rest i hport hdecode => step_command s c w rest i hport hdecode

end Sys2Proof

/-! PROOFS. Steps that perform no command (70_reset_and_hazards.md R390, 20_memory.md R90): nothing pending, a write of the
executor, the reset input; and the state after reset. -/

namespace Sys2Proof.Machine

open Sys2Proof.Safety

/-! ### The executor's write reaches the bytes it names -/

theorem addr_add_succ (addr : Word) (k : Nat) : addr + BitVec.ofNat 64 (k + 1) = addr + 1 + BitVec.ofNat 64 k := by
  rw [Nat.add_comm, BitVec.ofNat_add, ← BitVec.add_assoc]
  rfl

/-- Fewer than `2^64` bytes on from an address lie other addresses. -/
theorem addr_ne_add_succ (addr : Word) {k : Nat} (hk : k + 1 < 2 ^ 64) : addr.toNat ≠ (addr + BitVec.ofNat 64 (k + 1)).toNat := by
  have := addr.isLt
  simp only [BitVec.toNat_add, BitVec.toNat_ofNat]
  omega

/-- A byte read where bytes were written, none of them twice. -/
theorem Memory.read_writeBytes_inside (l : List Byte) : ∀ (m : Memory) (addr : Word), l.length ≤ 2 ^ 64 →
    ∀ k < l.length, (m.writeBytes addr l).read (addr + BitVec.ofNat 64 k).toNat = l[k]? := by
  induction l with
  | nil => exact fun _ _ _ k hk => absurd hk (Nat.not_lt_zero k)
  | cons v t ih =>
    intro m addr hlen k hk
    rw [List.length_cons] at hlen hk
    rw [Memory.writeBytes]
    cases k with
    | zero =>
      have haddr : addr + BitVec.ofNat 64 0 = addr := by simp
      rw [haddr, Memory.read_writeBytes_outside t _ _ _ fun j hj => ?_, Memory.read_writeByte, if_pos rfl]
      · rfl
      · rw [← addr_add_succ]
        exact addr_ne_add_succ addr (by omega)
    | succ k =>
      rw [addr_add_succ, ih _ _ (by omega) k (by omega)]
      rfl

theorem Memory.read_writeBytes_of_not_covers {l : List Byte} {addr : Word} {a : Nat} (m : Memory)
    (ha : ¬ covers addr l.length a) : (m.writeBytes addr l).read a = m.read a :=
  Memory.read_writeBytes_outside l m addr a fun k hk hak => ha ⟨k, hk, hak⟩

/-- Settles O6: the step is the write, and the bytes written lie at different addresses. -/
theorem idleAndExecutorSteps : Obligations.IdleAndExecutorSteps := by
  refine ⟨step_idle, fun s addr bytes rest hport hlen => ?_⟩
  exact ⟨_, step_executorStore s addr bytes rest hport, rfl, Memory.read_writeBytes_inside bytes _ addr hlen,
    fun a ha => Memory.read_writeBytes_of_not_covers _ ha, rfl, rfl, rfl, rfl, rfl, rfl, rfl, rfl, rfl, rfl⟩

/-! ### The values after reset -/

section Reset

variable {s : State} (heng : s.eng = .reset)

include heng

theorem ctx_of_reset (c : Nat) : s.ctx c = .reset := by
  rw [State.ctx, heng]
  rfl

theorem core_of_reset (k : Nat) : s.core k = .reset := by
  rw [State.core, heng]
  rfl

theorem reg_of_reset (k : Nat) (b : Bank) (p : Nat) : s.reg k b p = .reset := by
  rw [State.reg, core_of_reset heng]
  cases b <;> rfl

/-- Any state whose engine, latch and trace are those of reset holds the values of 10_state.md R69. -/
theorem resetValues_of_reset (hlatch : s.latch = .reset) (htrace : s.trace = []) : ResetValues s := by
  refine ⟨reg_of_reset heng, fun k => ?_, fun c => ?_, by rw [heng]; rfl, hlatch, htrace⟩
  · rw [core_of_reset heng]
    exact ⟨fun _ => rfl, rfl, fun q => by cases q <;> rfl⟩
  · rw [ctx_of_reset heng]
    exact ⟨rfl, rfl, rfl, rfl, rfl, rfl, fun b i => by cases b <;> rfl⟩

end Reset

/-- Settles O7: the reset input gives the engine the values the state starts with. -/
theorem resetGivesResetValues : Obligations.ResetGivesResetValues :=
  ⟨resetValues_of_reset rfl rfl rfl, fun s rest hport =>
    ⟨_, step_reset s rest hport, resetValues_of_reset rfl rfl rfl, rfl, rfl, rfl⟩⟩

/-! ### The invariant at reset -/

theorem attachedTo_of_reset {s : State} (heng : s.eng = .reset) (k : Nat) : attachedTo s k = [] := by
  simp [attachedTo, ctx_of_reset heng, Context.reset]

theorem icountOn_of_reset {s : State} (heng : s.eng = .reset) (k c : Nat) : icountOn s k c = 0 := by
  simp [icountOn, ctx_of_reset heng, Context.reset]

/-- With no context attached and every register FREE the invariants hold, whatever the configuration. -/
theorem engineOk_of_reset {s : State} (heng : s.eng = .reset) : EngineOk s := by
  have hctx := ctx_of_reset heng
  have hcore := core_of_reset heng
  have hring : RingOk Ring.reset := by decide
  refine ⟨fun c _ => ?_, ⟨fun c _ => ?_, fun k _ n _ => ?_⟩, fun c _ => ?_, fun c _ => ?_, ⟨fun c _ => ?_, fun k _ => ?_⟩,
    fun k _ q _ => ?_, fun k _ b _ p _ => ?_, fun c _ hc => ?_⟩
  · rw [hctx]
    exact ⟨hring, hring, hring⟩
  · rw [ContextAttachOk, hctx]
    exact ⟨nofun, fun _ => ⟨rfl, rfl, rfl, rfl⟩⟩
  · rw [SlotOk, hcore]
    rfl
  · rw [hctx]
    exact ⟨rfl, rfl⟩
  · rw [hctx]
    rfl
  · rw [hctx]
    rfl
  · rw [hcore]
    have hsum : ((List.range s.cfg.numContexts).map (icountOn s k)).sum = 0 :=
      List.sum_eq_zero fun n hn => by
        obtain ⟨c, _, rfl⟩ := List.mem_map.mp hn
        exact icountOn_of_reset heng k c
    exact ⟨hsum.symm, Nat.zero_le _⟩
  · rw [hcore]
    cases q <;> exact ⟨nofun, .nil⟩
  · simp [owners, committers, attachedTo_of_reset heng, reg_of_reset heng, PhysReg.reset]
  · rw [hctx] at hc
    cases hc

/-- Settles O9: nothing is attached and nothing is latched. -/
theorem invAtReset : Obligations.InvAtReset := by
  have hinv : ∀ p : Config.Params, p.valid = true → Inv (State.resetWith p) := fun p hp =>
    ⟨hp, rfl, fun _ => rfl, fun _ => engineOk_of_reset rfl⟩
  exact ⟨hinv _ (by decide), hinv⟩

end Sys2Proof.Machine

/-! PROOFS. The common checks (60_exceptions.md R368): identifiers, banks and attachment for every command at once, then
indices and handles. -/

namespace Sys2Proof.Machine

open Sys2Proof.Safety

/-! ### The check of the identifiers a command uses -/

/-- Step 4 of the check order for whatever identifiers the command uses (60_exceptions.md R368). -/
def checkIds (i : Instr) (s : State) (k : Ran) : Ran :=
  if (∀ c ∈ usesCtx i, c.toNat < s.cfg.numContexts) ∧ ∀ k ∈ usesCore i, k.toNat < s.cfg.numCores then k
  else .done s (.illegal .badId)

section Ids

variable {i : Instr} {s : State} {k : Ran} {c core : BitVec 8}

theorem checkIds_pass (h : IdsExist i s) : checkIds i s k = k := if_pos h

theorem checkIds_fail (h : ¬ IdsExist i s) : checkIds i s k = .done s (.illegal .badId) := if_neg h

theorem eq_checkIds_of_none (hc : usesCtx i = none) (hk : usesCore i = none) : k = checkIds i s k := by
  simp [checkIds, hc, hk]

theorem checkCtx_eq_checkIds (hc : usesCtx i = some c) (hk : usesCore i = none) : checkCtx c s k = checkIds i s k := by
  simp [checkIds, checkCtx, hc, hk]

theorem checkCore_eq_checkIds (hc : usesCtx i = none) (hk : usesCore i = some core) : checkCore core s k = checkIds i s k := by
  simp [checkIds, checkCore, hc, hk]

theorem checkCtx_checkCore_eq_checkIds (hc : usesCtx i = some c) (hk : usesCore i = some core) :
    checkCtx c s (checkCore core s k) = checkIds i s k := by
  by_cases h : c.toNat < s.cfg.numContexts <;> simp [checkIds, checkCtx, checkCore, hc, hk, h]

theorem checkCore_checkCtx_eq_checkIds (hc : usesCtx i = some c) (hk : usesCore i = some core) :
    checkCore core s (checkCtx c s k) = checkIds i s k := by
  by_cases h : c.toNat < s.cfg.numContexts <;> simp [checkIds, checkCtx, checkCore, hc, hk, h]

end Ids

/-- What comes after the check of the identifiers: the bank check of a bank command, the attachment check of a command that
needs an attached context. -/
abbrev CheckedNext (i : Instr) (s : State) (k : Ran) : Prop :=
  (∀ q ∈ usesBank i, ∃ f, k = checkBank q s f)
    ∧ (needsAttached i = true → ∃ c k', usesCtx i = some c ∧ k = checkAttached c s k')

/-- Every command but FATAL_STATUS first checks the identifiers it uses, then its bank or its context's attachment. -/
theorem exec_eq_checked (i : Instr) (s : State) (hi : i ≠ .fatalStatus) :
    ∃ k, exec i s = perform i s (checkIds i s k) ∧ CheckedNext i s k := by
  cases i with
  | nop =>
    have hnop : exec .nop s = perform .nop s (.done s (.ok [])) := rfl
    exact ⟨_, hnop.trans (congrArg (perform .nop s) (eq_checkIds_of_none rfl rfl)), nofun, nofun⟩
  | dispatch c p => exact ⟨_, congrArg (perform _ s) (checkCtx_eq_checkIds rfl rfl), nofun, fun _ => ⟨c, _, rfl, rfl⟩⟩
  | markQueued c b slot gen =>
    exact ⟨_, congrArg (perform _ s) (checkCtx_eq_checkIds rfl rfl), nofun, fun _ => ⟨c, _, rfl, rfl⟩⟩
  | issue c b slot gen => exact ⟨_, congrArg (perform _ s) (checkCtx_eq_checkIds rfl rfl), nofun, fun _ => ⟨c, _, rfl, rfl⟩⟩
  | complete c b slot gen =>
    exact ⟨_, congrArg (perform _ s) (checkCtx_eq_checkIds rfl rfl), nofun, fun _ => ⟨c, _, rfl, rfl⟩⟩
  | commit c => exact ⟨_, congrArg (perform _ s) (checkCtx_eq_checkIds rfl rfl), nofun, fun _ => ⟨c, _, rfl, rfl⟩⟩
  | rollbackTo c m slot gen =>
    exact ⟨_, congrArg (perform _ s) (checkCtx_eq_checkIds rfl rfl), nofun, fun _ => ⟨c, _, rfl, rfl⟩⟩
  | flushContext c => exact ⟨_, congrArg (perform _ s) (checkCtx_eq_checkIds rfl rfl), nofun, fun _ => ⟨c, _, rfl, rfl⟩⟩
  | addContext c core => exact ⟨_, congrArg (perform _ s) (checkCtx_checkCore_eq_checkIds rfl rfl), nofun, nofun⟩
  | ejectContext c => exact ⟨_, congrArg (perform _ s) (checkCtx_eq_checkIds rfl rfl), nofun, fun _ => ⟨c, _, rfl, rfl⟩⟩
  | transferContext c core =>
    exact ⟨_, congrArg (perform _ s) (checkCtx_checkCore_eq_checkIds rfl rfl), nofun, fun _ => ⟨c, _, rfl, rfl⟩⟩
  | findFreePhysreg core q =>
    exact ⟨_, congrArg (perform _ s) (checkCore_eq_checkIds rfl rfl), by rintro _ ⟨⟩; exact ⟨_, rfl⟩, nofun⟩
  | prfSetReady core q index ready spec =>
    exact ⟨_, congrArg (perform _ s) (checkCore_eq_checkIds rfl rfl), by rintro _ ⟨⟩; exact ⟨_, rfl⟩, nofun⟩
  | prfRead core q index =>
    exact ⟨_, congrArg (perform _ s) (checkCore_eq_checkIds rfl rfl), by rintro _ ⟨⟩; exact ⟨_, rfl⟩, nofun⟩
  | renameRead c a => exact ⟨_, congrArg (perform _ s) (checkCtx_eq_checkIds rfl rfl), nofun, fun _ => ⟨c, _, rfl, rfl⟩⟩
  | wqInsert core c q b slot gen key =>
    exact ⟨_, congrArg (perform _ s) (checkCore_checkCtx_eq_checkIds rfl rfl), nofun, nofun⟩
  | wqPop core q => exact ⟨_, congrArg (perform _ s) (checkCore_eq_checkIds rfl rfl), nofun, nofun⟩
  | wqRemove core c q b slot gen =>
    exact ⟨_, congrArg (perform _ s) (checkCore_checkCtx_eq_checkIds rfl rfl), nofun, nofun⟩
  | ifqPush c pc payload =>
    exact ⟨_, congrArg (perform _ s) (checkCtx_eq_checkIds rfl rfl), nofun, fun _ => ⟨c, _, rfl, rfl⟩⟩
  | ifqPop c => exact ⟨_, congrArg (perform _ s) (checkCtx_eq_checkIds rfl rfl), nofun, fun _ => ⟨c, _, rfl, rfl⟩⟩
  | wregRead c a => exact ⟨_, congrArg (perform _ s) (checkCtx_eq_checkIds rfl rfl), nofun, nofun⟩
  | wregWrite c a v => exact ⟨_, congrArg (perform _ s) (checkCtx_eq_checkIds rfl rfl), nofun, nofun⟩
  | setFetchPc c pc => exact ⟨_, congrArg (perform _ s) (checkCtx_eq_checkIds rfl rfl), nofun, nofun⟩
  | entryRead c b slot =>
    exact ⟨_, congrArg (perform _ s) (checkCtx_eq_checkIds rfl rfl), nofun, fun _ => ⟨c, _, rfl, rfl⟩⟩
  | ctxStatus c => exact ⟨_, congrArg (perform _ s) (checkCtx_eq_checkIds rfl rfl), nofun, nofun⟩
  | coreStatus core => exact ⟨_, congrArg (perform _ s) (checkCore_eq_checkIds rfl rfl), nofun, nofun⟩
  | fatalStatus => exact absurd rfl hi

theorem exec_of_bad_id {i : Instr} {s : State} (hi : i ≠ .fatalStatus) (hl : s.latch.set = false) (hid : ¬ IdsExist i s) :
    exec i s = .next (s.answer (.illegal .badId)) := by
  obtain ⟨k, hexec, _⟩ := exec_eq_checked i s hi
  rw [hexec, checkIds_fail hid, perform_done i s s _ hl]

theorem checkBank_fail {q : BitVec 2} {s : State} {f : Bank → Ran} (hq : 2 ≤ q.toNat) :
    checkBank q s f = .done s (.illegal .badBank) := if_neg (Nat.not_lt.mpr hq)

theorem checkAttached_fail {c : BitVec 8} {s : State} {k : Ran} (hc : (s.ctx c.toNat).attached = false) :
    checkAttached c s k = .fatal s .notAttached := by simp [checkAttached, hc]

theorem exec_of_bad_bank {i : Instr} {s : State} {q : BitVec 2} (hl : s.latch.set = false) (hid : IdsExist i s)
    (huses : usesBank i = some q) (hq : 2 ≤ q.toNat) : exec i s = .next (s.answer (.illegal .badBank)) := by
  obtain ⟨k, hexec, hbank, _⟩ := exec_eq_checked i s (by rintro rfl; cases huses)
  obtain ⟨f, rfl⟩ := hbank q huses
  rw [hexec, checkIds_pass hid, checkBank_fail hq, perform_done i s s _ hl]

theorem exec_of_not_attached {i : Instr} {s : State} {c : BitVec 8} (hl : s.latch.set = false) (hid : IdsExist i s)
    (huses : usesCtx i = some c) (hneeds : needsAttached i = true) (hc : (s.ctx c.toNat).attached = false) :
    exec i s = .next (s.raiseFatal .notAttached i.header) := by
  obtain ⟨k, hexec, _, hattached⟩ := exec_eq_checked i s (by rintro rfl; cases huses)
  obtain ⟨c', k', huses', rfl⟩ := hattached hneeds
  cases huses.symm.trans huses'
  rw [hexec, checkIds_pass hid, checkAttached_fail hc, perform_fatal i s s _ hl]

/-- Settles O21: `exec_eq_checked` gives the order of the two checks. -/
theorem badIdOrBankIsIllegal : Obligations.BadIdOrBankIsIllegal := by
  refine fun i s hl => ⟨fun hbad => ?_, fun hid hbank => ?_⟩
  · refine exec_of_bad_id (by rintro rfl; simp [usesCtx, usesCore] at hbad) hl fun hid => ?_
    obtain ⟨c, hc, hle⟩ | ⟨k, hk, hle⟩ := hbad
    · exact Nat.not_lt.mpr hle (hid.1 c hc)
    · exact Nat.not_lt.mpr hle (hid.2 k hk)
  · obtain ⟨q, huses, hq⟩ := hbank
    exact exec_of_bad_bank hl hid huses hq

/-- A defect at the state the command found leaves everything outside the engine as it was. -/
theorem latched_raiseFatal (s : State) (d : Defect) (i : Instr) : Latched s (s.raiseFatal d i.header) d i :=
  ⟨rfl, rfl, rfl, rfl, rfl, rfl⟩

/-! ### Indices and handles -/

theorem checkBank_pass {q : BitVec 2} {s : State} {f : Bank → Ran} (hq : q.toNat < 2) :
    checkBank q s f = f (if q.toNat = 0 then .int else .fp) := if_pos hq

theorem checkSlot_fail {c : BitVec 8} {b : Buf} {slot : Word} {s : State} {k : Ran}
    (h : ((s.ctx c.toNat).ring b).cap ≤ slot.toNat) : checkSlot c b slot s k = .done s (.illegal .badIndex) :=
  if_neg (Nat.not_lt.mpr h)

theorem checkQueueSlot_fail {slot : Word} {s : State} {k : Ran} (h : s.cfg.maxCap ≤ slot.toNat) :
    checkQueueSlot slot s k = .done s (.illegal .badIndex) := if_neg (Nat.not_lt.mpr h)

theorem checkReg_fail {p : Word} {s : State} {k : Ran} (h : s.cfg.prfBankSize ≤ p.toNat) :
    checkReg p s k = .done s (.illegal .badIndex) := if_neg (Nat.not_lt.mpr h)

theorem checkArchreg_fail {a : Word} {s : State} {k : Ran} (h : 64 ≤ a.toNat) :
    checkArchreg a s k = .done s (.illegal .badArchreg) := if_neg (Nat.not_lt.mpr h)

theorem checkLive_fail {c : BitVec 8} {b : Buf} {slot gen : Word} {s : State} {k : Ran}
    (h : s.live c.toNat b slot.toNat gen.toNat = false) : checkLive c b slot gen s k = .done s .stale := by
  simp [checkLive, h]

theorem checkLiveOn_pass {core c : BitVec 8} {b : Buf} {slot gen : Word} {s : State} {k : Ran}
    (h : s.live c.toNat b slot.toNat gen.toNat = true) (hk : (s.ctx c.toNat).core = core.toNat) :
    checkLiveOn core c b slot gen s k = k := if_pos ⟨h, hk⟩

theorem checkLiveOn_fail {core c : BitVec 8} {b : Buf} {slot gen : Word} {s : State} {k : Ran}
    (h : s.live c.toNat b slot.toNat gen.toNat = false ∨ (s.ctx c.toNat).core ≠ core.toNat) :
    checkLiveOn core c b slot gen s k = .done s .stale := by
  refine if_neg fun ⟨hlive, hcore⟩ => ?_
  obtain h | h := h
  · rw [hlive] at h
    cases h
  · exact h hcore

section Handles

variable {s : State} {c core : BitVec 8} {b : Buf} {slot gen : Word} {k : Ran}

theorem checkHandle_badIndex (hc : c.toNat < s.cfg.numContexts) (ha : (s.ctx c.toNat).attached = true)
    (hslot : ((s.ctx c.toNat).ring b).cap ≤ slot.toNat) : checkHandle c b slot gen s k = .done s (.illegal .badIndex) := by
  rw [checkHandle, checkCtx_pass c s _ hc, checkAttached_pass c s _ ha, checkSlot_fail hslot]

theorem checkHandle_stale (hc : c.toNat < s.cfg.numContexts) (ha : (s.ctx c.toNat).attached = true)
    (hslot : slot.toNat < ((s.ctx c.toNat).ring b).cap) (hlive : s.live c.toNat b slot.toNat gen.toNat = false) :
    checkHandle c b slot gen s k = .done s .stale := by
  rw [checkHandle, checkCtx_pass c s _ hc, checkAttached_pass c s _ ha, checkSlot_pass c b slot s _ hslot, checkLive_fail hlive]

/-- A live handle passes steps 4 to 7. -/
theorem checkHandle_pass (hc : c.toNat < s.cfg.numContexts) (hlive : s.live c.toNat b slot.toNat gen.toNat = true) :
    checkHandle c b slot gen s k = k := by
  obtain ⟨ha, hslot, _, _⟩ := (State.live_iff s c.toNat b slot.toNat gen.toNat).mp hlive
  rw [checkHandle, checkCtx_pass c s _ hc, checkAttached_pass c s _ ha, checkSlot_pass c b slot s _ hslot,
    checkLive_pass c b slot gen s _ hlive]

/-- The four commands on a handle of an attached context answer what the check of the handle answers. -/
theorem handle_commands_answer {m : Bool} {r : Response} (hl : s.latch.set = false)
    (h : ∀ k, checkHandle c b slot gen s k = .done s r) :
    (∀ i ∈ [Instr.markQueued c b slot gen, .issue c b slot gen, .complete c b slot gen], exec i s = .next (s.answer r))
      ∧ (b = .rob → exec (.rollbackTo c m slot gen) s = .next (s.answer r)) := by
  constructor
  · intro i hi
    simp only [List.mem_cons, List.not_mem_nil, or_false] at hi
    obtain rfl | rfl | rfl := hi
    all_goals exact (congrArg (perform _ s) (h _)).trans (perform_done _ s s r hl)
  · rintro rfl
    exact (congrArg (perform _ s) (h _)).trans (perform_done _ s s r hl)

/-- WQ_INSERT and WQ_REMOVE answer what their common checks answer. -/
theorem queue_commands_answer {q : Queue} {key : Word} {r : Response} (hl : s.latch.set = false)
    (hc : c.toNat < s.cfg.numContexts) (hk : core.toNat < s.cfg.numCores)
    (h : ∀ k, checkQueueSlot slot s (checkLiveOn core c b slot gen s k) = .done s r) :
    ∀ i ∈ [Instr.wqInsert core c q b slot gen key, .wqRemove core c q b slot gen], exec i s = .next (s.answer r) := by
  intro i hi
  have hchecks : ∀ k', checkCore core s (checkCtx c s (checkQueueSlot slot s (checkLiveOn core c b slot gen s k')))
      = .done s r := fun k' => by rw [checkCore_pass core s _ hk, checkCtx_pass c s _ hc, h k']
  simp only [List.mem_cons, List.not_mem_nil, or_false] at hi
  obtain rfl | rfl := hi
  all_goals exact (congrArg (perform _ s) (hchecks _)).trans (perform_done _ s s r hl)

end Handles

theorem exec_entryRead_badIndex {s : State} {c : BitVec 8} {b : Buf} {slot : Word} (hl : s.latch.set = false)
    (hc : c.toNat < s.cfg.numContexts) (ha : (s.ctx c.toNat).attached = true)
    (hslot : ((s.ctx c.toNat).ring b).cap ≤ slot.toNat) :
    exec (.entryRead c b slot) s = .next (s.answer (.illegal .badIndex)) := by
  simp only [exec, execEntryRead]
  rw [checkCtx_pass c s _ hc, checkAttached_pass c s _ ha, checkSlot_fail hslot, perform_done _ s s _ hl]

/-- PRF_READ and PRF_SET_READY of a register that does not exist. -/
theorem exec_prf_badIndex {s : State} {core : BitVec 8} {q : BitVec 2} {p ready spec : Word} (hl : s.latch.set = false)
    (hk : core.toNat < s.cfg.numCores) (hq : q.toNat < 2) (hp : s.cfg.prfBankSize ≤ p.toNat) :
    ∀ i ∈ [Instr.prfRead core q p, .prfSetReady core q p ready spec], exec i s = .next (s.answer (.illegal .badIndex)) := by
  intro i hi
  simp only [List.mem_cons, List.not_mem_nil, or_false] at hi
  obtain rfl | rfl := hi
  · simp only [exec, execPrfRead]
    rw [checkCore_pass core s _ hk, checkBank_pass hq, checkReg_fail hp, perform_done _ s s _ hl]
  · simp only [exec, execPrfSetReady]
    rw [checkCore_pass core s _ hk, checkBank_pass hq, checkReg_fail hp, perform_done _ s s _ hl]

/-- Settles O23: each clause is one check that fails after the checks before it have passed. -/
theorem badIndexThenStale : Obligations.BadIndexThenStale := by
  intro s c k q bank b m slot gen key hl hc hk hbank
  refine ⟨fun ha hslot => ?_, fun hslot => ?_, fun hp => exec_prf_badIndex hl hk hbank hp, fun ha hslot hlive => ?_,
    fun hslot hlive => ?_⟩
  · obtain ⟨hstatus, hrollback⟩ := handle_commands_answer (m := m) (gen := gen) hl fun k => checkHandle_badIndex (k := k) hc ha hslot
    refine ⟨fun i hi => ?_, hrollback⟩
    simp only [List.mem_cons, List.not_mem_nil, or_false] at hi hstatus
    obtain h | h | h | rfl := hi
    · exact hstatus i (.inl h)
    · exact hstatus i (.inr (.inl h))
    · exact hstatus i (.inr (.inr h))
    · exact exec_entryRead_badIndex hl hc ha hslot
  · exact queue_commands_answer hl hc hk fun k => checkQueueSlot_fail hslot
  · exact handle_commands_answer hl fun k => checkHandle_stale hc ha hslot hlive
  · exact queue_commands_answer hl hc hk fun k' => by rw [checkQueueSlot_pass slot s _ hslot, checkLiveOn_fail hlive]

end Sys2Proof.Machine

/-! PROOFS. Registers and read-outs (40_dispatch_rename.md R152 to R159, 45_frontend_query.md R321 to R328): what the commands
that read or write one register, one fetch record or one status word do. -/

namespace Sys2Proof.Machine

open Sys2Proof.Safety

/-! ### Reading a core or a context after an update -/

/-- A reading that an update of one core leaves alone is left alone at every core. -/
theorem State.read_updCore {α : Type} (g : Core → α) {s : State} {k : Nat} {f : Core → Core}
    (hg : g (f (s.core k)) = g (s.core k)) (j : Nat) : g ((s.updCore k f).core j) = g (s.core j) := by
  rw [State.updCore_core]
  split
  · subst_vars
    exact hg
  · rfl

/-- A reading that an update of one context leaves alone is left alone at every context. -/
theorem State.read_updCtx {α : Type} (g : Context → α) {s : State} {c : Nat} {f : Context → Context}
    (hg : g (f (s.ctx c)) = g (s.ctx c)) (j : Nat) : g ((s.updCtx c f).ctx j) = g (s.ctx j) := by
  rw [State.updCtx_ctx]
  split
  · subst_vars
    exact hg
  · rfl

/-- An update of a core that leaves both banks alone leaves every register alone. -/
theorem State.reg_updCore {s : State} {k : Nat} {f : Core → Core} (hf : ∀ b, (f (s.core k)).prf b = (s.core k).prf b)
    (j : Nat) (b : Bank) (p : Nat) : (s.updCore k f).reg j b p = s.reg j b p :=
  congrArg (Table.get PhysReg.reset · p) (State.read_updCore (fun x => x.prf b) (hf b) j)

@[simp] theorem Core.prf_setSlot (x : Core) (n : Nat) (v : Option Nat) (b : Bank) : (x.setSlot n v).prf b = x.prf b := by
  cases b <;> rfl

@[simp] theorem Core.prf_setWq (x : Core) (q : Queue) (l : List Membership) (b : Bank) : (x.setWq q l).prf b = x.prf b := by
  cases b <;> simp

@[simp] theorem Core.wq_setReg (x : Core) (b : Bank) (p : Nat) (r : PhysReg) (q : Queue) : (x.setReg b p r).wq q = x.wq q := by
  cases b <;> cases q <;> rfl

@[simp] theorem Core.wq_setSlot (x : Core) (n : Nat) (v : Option Nat) (q : Queue) : (x.setSlot n v).wq q = x.wq q := by
  cases q <;> rfl

@[simp] theorem Core.slotOf_setReg (x : Core) (b : Bank) (p : Nat) (r : PhysReg) (n : Nat) :
    (x.setReg b p r).slotOf n = x.slotOf n := by simp [Core.slotOf]

@[simp] theorem Core.slotOf_setWq (x : Core) (q : Queue) (l : List Membership) (n : Nat) :
    (x.setWq q l).slotOf n = x.slotOf n := by simp [Core.slotOf]

/-! #### `setReg` and `setRegState` -/

@[simp] theorem State.setReg_core_wq (s : State) (k : Nat) (b : Bank) (p : Nat) (r : PhysReg) (j : Nat) (q : Queue) :
    ((s.setReg k b p r).core j).wq q = (s.core j).wq q := State.read_updCore (fun x => x.wq q) (Core.wq_setReg _ _ _ _ _) j

@[simp] theorem State.setReg_core_slotOf (s : State) (k : Nat) (b : Bank) (p : Nat) (r : PhysReg) (j n : Nat) :
    ((s.setReg k b p r).core j).slotOf n = (s.core j).slotOf n :=
  State.read_updCore (fun x => x.slotOf n) (Core.slotOf_setReg _ _ _ _ _) j

@[simp] theorem State.setReg_core_iqCount (s : State) (k : Nat) (b : Bank) (p : Nat) (r : PhysReg) (j : Nat) :
    ((s.setReg k b p r).core j).iqCount = (s.core j).iqCount :=
  State.read_updCore (fun x => x.iqCount) (Core.setReg_iqCount _ _ _ _) j

theorem State.setReg_core_ne (s : State) {k j : Nat} (b : Bank) (p : Nat) (r : PhysReg) (h : j ≠ k) :
    (s.setReg k b p r).core j = s.core j := State.updCore_core_ne s _ h

@[simp] theorem State.setRegState_core_wq (s : State) (k : Nat) (b : Bank) (p : Nat) (st : RegState) (j : Nat) (q : Queue) :
    ((s.setRegState k b p st).core j).wq q = (s.core j).wq q := State.setReg_core_wq s k b p _ j q

@[simp] theorem State.setRegState_core_slotOf (s : State) (k : Nat) (b : Bank) (p : Nat) (st : RegState) (j n : Nat) :
    ((s.setRegState k b p st).core j).slotOf n = (s.core j).slotOf n := State.setReg_core_slotOf s k b p _ j n

@[simp] theorem State.setRegState_core_iqCount (s : State) (k : Nat) (b : Bank) (p : Nat) (st : RegState) (j : Nat) :
    ((s.setRegState k b p st).core j).iqCount = (s.core j).iqCount := State.setReg_core_iqCount s k b p _ j

theorem State.setRegState_core_ne (s : State) {k j : Nat} (b : Bank) (p : Nat) (st : RegState) (h : j ≠ k) :
    (s.setRegState k b p st).core j = s.core j := State.setReg_core_ne s b p _ h

@[simp] theorem State.setReg_nextSeq (s : State) (k : Nat) (b : Bank) (p : Nat) (r : PhysReg) :
    (s.setReg k b p r).eng.nextSeq = s.eng.nextSeq := rfl

@[simp] theorem State.setRegState_nextSeq (s : State) (k : Nat) (b : Bank) (p : Nat) (st : RegState) :
    (s.setRegState k b p st).eng.nextSeq = s.eng.nextSeq := rfl

/-! #### `setWq` -/

theorem State.setWq_core_wq (s : State) (k : Nat) (q : Queue) (l : List Membership) (j : Nat) (q' : Queue) :
    ((s.setWq k q l).core j).wq q' = if j = k ∧ q' = q then l else (s.core j).wq q' := by
  rw [State.setWq, State.updCore_core]
  by_cases hj : j = k
  · subst hj
    simp [Core.wq_setWq]
  · simp [hj]

@[simp] theorem State.setWq_reg (s : State) (k : Nat) (q : Queue) (l : List Membership) (j : Nat) (b : Bank) (p : Nat) :
    (s.setWq k q l).reg j b p = s.reg j b p := State.reg_updCore (fun b => Core.prf_setWq _ q l b) j b p

@[simp] theorem State.setWq_core_slotOf (s : State) (k : Nat) (q : Queue) (l : List Membership) (j n : Nat) :
    ((s.setWq k q l).core j).slotOf n = (s.core j).slotOf n :=
  State.read_updCore (fun x => x.slotOf n) (Core.slotOf_setWq _ q l n) j

@[simp] theorem State.setWq_core_iqCount (s : State) (k : Nat) (q : Queue) (l : List Membership) (j : Nat) :
    ((s.setWq k q l).core j).iqCount = (s.core j).iqCount :=
  State.read_updCore (fun x => x.iqCount) (Core.setWq_iqCount _ q l) j

@[simp] theorem State.setWq_ctx (s : State) (k : Nat) (q : Queue) (l : List Membership) (c : Nat) :
    (s.setWq k q l).ctx c = s.ctx c := rfl

/-! ### FIND_FREE_PHYSREG, PRF_SET_READY, PRF_READ, RENAME_READ -/

theorem State.isFree_eq_true_iff (s : State) (k : Nat) (b : Bank) (p : Nat) :
    s.isFree k b p = true ↔ (s.reg k b p).state = .free := by simp [State.isFree]

theorem State.isFree_eq_false_iff (s : State) (k : Nat) (b : Bank) (p : Nat) :
    s.isFree k b p = false ↔ (s.reg k b p).state ≠ .free := by simp [State.isFree]

/-- The two bank numbers that exist pass the bank check. -/
theorem checkBank_of_bank {q : BitVec 2} {b : Bank} {s : State} {f : Bank → Ran} (h : q = 0 ∧ b = .int ∨ q = 1 ∧ b = .fp) :
    checkBank q s f = f b := by
  obtain ⟨rfl, rfl⟩ | ⟨rfl, rfl⟩ := h <;> rfl

theorem exec_findFreePhysreg_some {s : State} {k : BitVec 8} {q : BitVec 2} {b : Bank} {p : Nat} (hl : s.latch.set = false)
    (hk : k.toNat < s.cfg.numCores) (hb : q = 0 ∧ b = .int ∨ q = 1 ∧ b = .fp) (hfind : s.findFree k.toNat b = some p) :
    exec (.findFreePhysreg k q) s = .next (s.answer (.ok [natWord p])) := by
  simp only [exec, execFindFreePhysreg]
  rw [checkCore_pass k s _ hk, checkBank_of_bank hb, hfind]
  exact perform_done _ s s _ hl

theorem exec_findFreePhysreg_none {s : State} {k : BitVec 8} {q : BitVec 2} {b : Bank} (hl : s.latch.set = false)
    (hk : k.toNat < s.cfg.numCores) (hb : q = 0 ∧ b = .int ∨ q = 1 ∧ b = .fp) (hfind : s.findFree k.toNat b = none) :
    exec (.findFreePhysreg k q) s = .next (s.answer .empty) := by
  simp only [exec, execFindFreePhysreg]
  rw [checkCore_pass k s _ hk, checkBank_of_bank hb, hfind]
  exact perform_done _ s s _ hl

/-- Settles O29: the laws of the scan in terms of ownership states. -/
theorem findFreeAnswersLowest : Obligations.FindFreeAnswersLowest := by
  refine fun s k q b hl hk hb => ⟨fun p hp hfree hlower => ?_, fun hnone => ?_⟩
  · have hfind : s.findFree k.toNat b = some p := (State.findFree_some s _ b p).mpr
      ⟨hp, (State.isFree_eq_true_iff s _ b p).mpr hfree, fun r hr => (State.isFree_eq_false_iff s _ b r).mpr (hlower r hr)⟩
    exact ⟨exec_findFreePhysreg_some hl hk hb hfind, hfind⟩
  · have hfind : s.findFree k.toNat b = none := (State.findFree_none s _ b).mpr fun p hp =>
      (State.isFree_eq_false_iff s _ b p).mpr (hnone p hp)
    exact ⟨exec_findFreePhysreg_none hl hk hb hfind, hfind⟩

/-- Settles O30: one register record is written, or the defect is raised at the state found. -/
theorem prfSetReadyWritesTimestamps : Obligations.PrfSetReadyWritesTimestamps := by
  intro s k q b p ready spec hl hk hb hp
  have hexec : exec (.prfSetReady k q p ready spec) s = perform (.prfSetReady k q p ready spec) s
      (if (s.reg k.toNat b p.toNat).state = .alloc then
        .done (s.setReg k.toNat b p.toNat { s.reg k.toNat b p.toNat with readyCycle := ready, specReadyCycle := spec }) (.ok [])
      else .fatal s .prfState) := by
    simp only [exec, execPrfSetReady]
    rw [checkCore_pass k s _ hk, checkBank_of_bank hb, checkReg_pass p s _ hp]
  rw [hexec]
  refine ⟨fun halloc => ?_, fun halloc => ?_⟩
  · rw [if_pos halloc, perform_done _ s _ _ hl]
    refine ⟨_, rfl, rfl, fun k' b' p' => ?_, fun k' n => State.setReg_core_slotOf s _ b _ _ k' n,
      fun k' q' => State.setReg_core_wq s _ b _ _ k' q', fun k' => State.setReg_core_iqCount s _ b _ _ k', fun _ => rfl, rfl,
      rfl, rfl, rfl, rfl, rfl, rfl⟩
    rw [← halloc]
    exact State.reg_setReg s _ b _ _ k' b' p'
  · rw [if_neg halloc, perform_fatal _ s _ _ hl]
    exact ⟨_, rfl, latched_raiseFatal s .prfState _⟩

theorem exec_prfRead {s : State} {k : BitVec 8} {q : BitVec 2} {b : Bank} {p : Word} (hl : s.latch.set = false)
    (hk : k.toNat < s.cfg.numCores) (hb : q = 0 ∧ b = .int ∨ q = 1 ∧ b = .fp) (hp : p.toNat < s.cfg.prfBankSize) :
    exec (.prfRead k q p) s = .next (s.answer (.ok [regStateWord (s.reg k.toNat b p.toNat).state,
      (s.reg k.toNat b p.toNat).readyCycle, (s.reg k.toNat b p.toNat).specReadyCycle, (s.reg k.toNat b p.toNat).allocCycle])) := by
  simp only [exec, execPrfRead]
  rw [checkCore_pass k s _ hk, checkBank_of_bank hb, checkReg_pass p s _ hp]
  exact perform_done _ s s _ hl

/-- A bank number below 2 is 0 for INT or 1 for FP. -/
theorem bank_of_lt_two : ∀ q : BitVec 2, q.toNat < 2 →
    (q = 0 ∧ (if q = 0 then Bank.int else .fp) = .int ∨ q = 1 ∧ (if q = 0 then Bank.int else .fp) = .fp) := by decide

/-- Settles O31: the two answers of the checks and the record read. -/
theorem prfReadAnswersRecord : Obligations.PrfReadAnswersRecord := by
  refine fun s k q p => ⟨rfl, fun hl hk => ⟨fun hq => ?_, fun hq hp => ?_, fun hq hp => ?_⟩⟩
  · exact exec_of_bad_bank hl ⟨nofun, by rintro _ ⟨⟩; exact hk⟩ rfl hq
  · exact exec_prf_badIndex (ready := 0) (spec := 0) hl hk hq hp _ List.mem_cons_self
  · dsimp only
    rw [exec_prfRead hl hk (bank_of_lt_two q hq) hp]
    cases (s.reg k.toNat (if q = 0 then Bank.int else .fp) p.toNat).state <;> rfl

/-- Settles O32: the defect, the ILLEGAL answer and the mapping read. -/
theorem renameReadAnswersMapping : Obligations.RenameReadAnswersMapping := by
  refine fun s c a => ⟨rfl, fun hl hc => ?_⟩
  have hid : IdsExist (.renameRead c a) s := ⟨by rintro _ ⟨⟩; exact hc, nofun⟩
  refine ⟨fun ha => ⟨_, exec_of_not_attached hl hid rfl rfl ha, latched_raiseFatal s _ _⟩, fun ha hlt => ?_, fun ha hlt => ?_⟩
  · simp only [exec, execRenameRead]
    rw [checkCtx_pass c s _ hc, checkAttached_pass c s _ ha, checkArchreg_fail hlt, perform_done _ s s _ hl]
  · simp only [exec, execRenameRead]
    rw [checkCtx_pass c s _ hc, checkAttached_pass c s _ ha, checkArchreg_pass a s _ hlt, perform_done _ s s _ hl]

/-! ### The fetch queue and the working registers -/

/-- Settles O53: both commands write the fetch queue of one context alone. -/
theorem fetchQueuePushAndPop : Obligations.FetchQueuePushAndPop := by
  intro s c pc payload hl hc ha
  have hpush : exec (.ifqPush c pc payload) s = perform (.ifqPush c pc payload) s
      (if (s.ctx c.toNat).ifqRing.num = (s.ctx c.toNat).ifqRing.cap then .done s (.stall .ifqFull) else
        .done (s.updCtx c.toNat (fun x => { x with
            ifq := Table.put x.ifq (s.ctx c.toNat).ifqRing.tail ⟨pc, payload⟩
            ifqRing := (s.ctx c.toNat).ifqRing.pushTail })) (.ok [natWord (s.ctx c.toNat).ifqRing.tail])) := by
    simp only [exec, execIfqPush]
    rw [checkCtx_pass c s _ hc, checkAttached_pass c s _ ha]
  have hpop : exec (.ifqPop c) s = perform (.ifqPop c) s
      (if (s.ctx c.toNat).ifqRing.num = 0 then .done s .empty else
        .done (s.updCtx c.toNat (fun x => { x with ifqRing := (s.ctx c.toNat).ifqRing.popHead }))
          (.ok [(Table.get FetchRecord.blank (s.ctx c.toNat).ifq (s.ctx c.toNat).ifqRing.head).pc,
            (Table.get FetchRecord.blank (s.ctx c.toNat).ifq (s.ctx c.toNat).ifqRing.head).payload])) := by
    simp only [exec, execIfqPop]
    rw [checkCtx_pass c s _ hc, checkAttached_pass c s _ ha]
  dsimp only
  rw [hpush, hpop]
  refine ⟨fun hfull => ?_, fun hroom => ?_, fun hempty => ?_, fun hsome => ?_⟩
  · rw [if_pos hfull, perform_done _ s _ _ hl]
  · rw [if_neg hroom, perform_done _ s _ _ hl]
    refine ⟨_, rfl, rfl, fun j => ?_, ?_, ?_, fun j hj => (State.answer_ctx _ _ _).trans (State.updCtx_ctx_ne s _ hj), fun _ => rfl, rfl, rfl, rfl, rfl, rfl,
      rfl, rfl⟩
    · rw [State.answer_ctx, State.updCtx_ctx_same, Table.get_put]
    · rw [State.answer_ctx, State.updCtx_ctx_same]
      rfl
    · rw [State.answer_ctx, State.updCtx_ctx_same]
  · rw [if_pos hempty, perform_done _ s _ _ hl]
  · rw [if_neg hsome, perform_done _ s _ _ hl]
    refine ⟨_, rfl, rfl, fun j => ?_, ?_, ?_, fun j hj => (State.answer_ctx _ _ _).trans (State.updCtx_ctx_ne s _ hj), fun _ => rfl, rfl, rfl, rfl, rfl, rfl,
      rfl, rfl⟩
    · rw [State.answer_ctx, State.updCtx_ctx_same]
    · rw [State.answer_ctx, State.updCtx_ctx_same]
      rfl
    · rw [State.answer_ctx, State.updCtx_ctx_same]

/-- Settles O54: one table entry is read or written, whether or not the context is attached. -/
theorem workingRegisterReadAndWrite : Obligations.WorkingRegisterReadAndWrite := by
  intro s c a v hl hc
  refine ⟨fun ha => ⟨?_, ?_⟩, fun ha => ⟨?_, ?_⟩⟩
  · simp only [exec, execWregRead]
    rw [checkCtx_pass c s _ hc, checkArchreg_pass a s _ ha, perform_done _ s s _ hl]
  · simp only [exec, execWregWrite]
    rw [checkCtx_pass c s _ hc, checkArchreg_pass a s _ ha, perform_done _ s _ _ hl]
    refine ⟨_, rfl, rfl, fun b => ?_, ?_, fun j hj => (State.answer_ctx _ _ _).trans (State.updCtx_ctx_ne s _ hj), fun _ => rfl, rfl, rfl, rfl, rfl, rfl, rfl,
      rfl⟩
    · rw [State.answer_ctx, State.updCtx_ctx_same]
      exact Table.get_put _ _ _ _ _
    · rw [State.answer_ctx, State.updCtx_ctx_same]
  · simp only [exec, execWregRead]
    rw [checkCtx_pass c s _ hc, checkArchreg_fail ha, perform_done _ s s _ hl]
  · simp only [exec, execWregWrite]
    rw [checkCtx_pass c s _ hc, checkArchreg_fail ha, perform_done _ s s _ hl]

/-! ### ENTRY_READ (45_frontend_query.md R326) -/

/-- The flags word as a number, one bit per flag above the two of `dest_format`. -/
theorem Entry.flagsWord_toNat (e : Entry) :
    e.flagsWord.toNat = e.inIq.toNat * 2 ^ 9 + e.completed.toNat * 2 ^ 8 + e.issued.toNat * 2 ^ 7 + e.queued.toNat * 2 ^ 6
      + e.dispatched.toNat * 2 ^ 5 + e.isStore.toNat * 2 ^ 4 + e.isLoad.toNat * 2 ^ 3 + e.eaComp.toNat * 2 ^ 2
      + (destCode e.destFormat).toNat := by
  simp only [Entry.flagsWord, toNat_append_eq_add, BitVec.toNat_ofBool, BitVec.ofNat_eq_ofNat, BitVec.toNat_ofNat]
  omega

/-- Bit `n` of a word, read off the word as a number. -/
theorem getLsbD_eq_of_div_mod {w : Word} {n : Nat} {b : Bool} (h : w.toNat / 2 ^ n % 2 = b.toNat) : w.getLsbD n = b := by
  rw [BitVec.getLsbD, Nat.testBit_eq_decide_div_mod_eq, h]
  cases b <;> rfl

/-- The bits of the flags word d10, and nothing above bit 9. -/
theorem Entry.flagsWord_bits (e : Entry) :
    e.flagsWord.toNat % 4 = (destCode e.destFormat).toNat ∧ e.flagsWord.getLsbD 2 = e.eaComp
      ∧ e.flagsWord.getLsbD 3 = e.isLoad ∧ e.flagsWord.getLsbD 4 = e.isStore ∧ e.flagsWord.getLsbD 5 = e.dispatched
      ∧ e.flagsWord.getLsbD 6 = e.queued ∧ e.flagsWord.getLsbD 7 = e.issued ∧ e.flagsWord.getLsbD 8 = e.completed
      ∧ e.flagsWord.getLsbD 9 = e.inIq ∧ e.flagsWord.toNat < 2 ^ 10 := by
  have hword := e.flagsWord_toNat
  have hcode : (destCode e.destFormat).toNat < 2 ^ 2 := (destCode e.destFormat).isLt
  have h2 := e.eaComp.toNat_lt
  have h3 := e.isLoad.toNat_lt
  have h4 := e.isStore.toNat_lt
  have h5 := e.dispatched.toNat_lt
  have h6 := e.queued.toNat_lt
  have h7 := e.issued.toNat_lt
  have h8 := e.completed.toNat_lt
  have h9 := e.inIq.toNat_lt
  refine ⟨?_, getLsbD_eq_of_div_mod ?_, getLsbD_eq_of_div_mod ?_, getLsbD_eq_of_div_mod ?_, getLsbD_eq_of_div_mod ?_,
    getLsbD_eq_of_div_mod ?_, getLsbD_eq_of_div_mod ?_, getLsbD_eq_of_div_mod ?_, getLsbD_eq_of_div_mod ?_, ?_⟩ <;> omega

/-- Any list of words is cut from some draw. -/
theorem exists_draw_of_words (ws : List Word) :
    ∃ d : Nat, (List.range ws.length).map (fun k => BitVec.ofNat 64 (d >>> (64 * k))) = ws := by
  induction ws with
  | nil => exact ⟨0, rfl⟩
  | cons w ws ih =>
    obtain ⟨d, hd⟩ := ih
    refine ⟨w.toNat + 2 ^ 64 * d, ?_⟩
    rw [List.length_cons, List.range_succ_eq_map, List.map_cons, List.map_map]
    congr 1
    · apply BitVec.eq_of_toNat_eq
      simp only [Nat.mul_zero, Nat.shiftRight_zero, BitVec.toNat_ofNat]
      omega
    · rw [← hd]
      simp only [List.length_map, List.length_range]
      refine List.map_congr_left fun k _ => ?_
      have hshift : (w.toNat + 2 ^ 64 * d) >>> (64 * (k + 1)) = d >>> (64 * k) := by
        rw [Nat.mul_succ, Nat.add_comm (64 * k), Nat.shiftRight_add]
        congr 1
        rw [Nat.shiftRight_eq_div_pow]
        omega
      exact congrArg (BitVec.ofNat 64) hshift

theorem nextDraw_of_draws (s : State) (d : Nat) (l : List Nat) :
    State.nextDraw { s with env := { s.env with draws := d :: l } } = d := rfl

/-- Settles O56: the words of a live slot with the bits of d10, and of a dead slot those of a draw. -/
theorem entryReadAnswersFields : Obligations.EntryReadAnswersFields := by
  intro s c b slot hl hc ha hslot
  have hexec : ∀ u : State, u.eng = s.eng → u.cfg = s.cfg →
      exec (.entryRead c b slot) u = perform (.entryRead c b slot) u
        (if ((s.ctx c.toNat).ring b).isLive slot.toNat then
          .done u (.ok (1 :: natWord ((s.ctx c.toNat).gen b slot.toNat) :: ((s.ctx c.toNat).entry b slot.toNat).words))
        else .done u.afterDraw (.ok (0 :: natWord ((s.ctx c.toNat).gen b slot.toNat) :: deadWords u.nextDraw))) := by
    intro u heng hcfg
    have hu : ∀ j, u.ctx j = s.ctx j := fun j => by rw [State.ctx, State.ctx, heng]
    simp only [exec, execEntryRead]
    rw [checkCtx_pass c u _ (hcfg ▸ hc), checkAttached_pass c u _ (hu _ ▸ ha), checkSlot_pass c b slot u _ (hu _ ▸ hslot), hu]
  have hlive : ((s.ctx c.toNat).ring b).isLive slot.toNat = true
      ↔ ((s.ctx c.toNat).ring b).pos slot.toNat < ((s.ctx c.toNat).ring b).num := by
    simp [Ring.isLive, hslot]
  refine ⟨fun h => ?_, fun h => ?_, fun h ws hws => ?_⟩
  · refine ⟨((s.ctx c.toNat).entry b slot.toNat).flagsWord, ?_, ?_⟩
    · rw [hexec s rfl rfl, if_pos (hlive.mpr h), perform_done _ s s _ hl, Entry.words, ← BitVec.ofNat_toNat,
        ← BitVec.ofNat_toNat]
    · obtain ⟨hcode, hbits⟩ := ((s.ctx c.toNat).entry b slot.toNat).flagsWord_bits
      refine ⟨?_, hbits⟩
      rw [hcode]
      cases ((s.ctx c.toNat).entry b slot.toNat).destFormat <;> rfl
  · rw [hexec s rfl rfl, if_neg (mt hlive.mp h), perform_done _ s _ _ hl]
    exact ⟨deadWords s.nextDraw, _, rfl, by simp [deadWords], rfl, rfl, rfl, rfl, rfl, rfl, rfl, rfl⟩
  · obtain ⟨d, hd⟩ := exists_draw_of_words ws
    rw [hws] at hd
    refine ⟨d, _, (hexec { s with env := { s.env with draws := d :: s.env.draws } } rfl rfl).trans ((congrArg (perform _ _) (if_neg (mt hlive.mp h))).trans
      (perform_done _ _ _ _ hl)), ?_⟩
    rw [State.answer_response, nextDraw_of_draws, deadWords, hd]

/-! ### CTX_STATUS and CORE_STATUS (45_frontend_query.md R327, R328) -/

/-- The word d0 of CTX_STATUS of an attached context as a number. -/
theorem Context.attachWord_toNat {x : Context} (ha : x.attached = true) (hcore : x.core < 256) (hslot : x.slot < 256) :
    x.attachWord.toNat = 1 + 2 ^ 8 * x.core + 2 ^ 16 * x.slot := by
  rw [Context.attachWord, if_pos ha]
  simp only [toNat_append_eq_add, BitVec.ofNat_eq_ofNat, BitVec.toNat_ofNat]
  omega

/-- A bit of the slot bitmap, over the bits already set. -/
theorem slotBitmap_foldl_getLsbD (l : List Nat) : ∀ (w : Word) {n : Nat}, n < 64 →
    (l.foldl (fun w m => w ||| ((1 : Word) <<< m)) w).getLsbD n = (w.getLsbD n || decide (n ∈ l)) := by
  induction l with
  | nil => simp
  | cons m l ih =>
    intro w n hn
    have hbit : ((1 : Word) <<< m).getLsbD n = decide (n = m) := by
      simp only [BitVec.getLsbD_shiftLeft, BitVec.ofNat_eq_ofNat, BitVec.getLsbD_one, hn, decide_true, Bool.true_and]
      by_cases h : n = m
      · simp [h]
      · by_cases hlt : n < m
        · simp [h, hlt]
        · have : n - m ≠ 0 := by omega
          simp [h, this]
    rw [List.foldl_cons, ih _ hn, BitVec.getLsbD_or, hbit, Bool.or_assoc]
    congr 1
    simp [List.mem_cons]

theorem slotBitmap_getLsbD (l : List Nat) {n : Nat} (hn : n < 64) : (slotBitmap l).getLsbD n = decide (n ∈ l) := by
  rw [slotBitmap, slotBitmap_foldl_getLsbD l _ hn]
  simp

theorem Core.occupied_eq (x : Core) (m : Nat) :
    x.occupied m = (List.range m).filter (fun n => decide (x.slotOf n ≠ none)) := by
  refine List.filter_congr fun n _ => ?_
  cases x.slotOf n <;> rfl

theorem State.freeCount_eq (s : State) (k : Nat) (b : Bank) : s.freeCount k b = (freeList s k b).length := rfl

/-- Settles O57: the layouts word by word; the bitmap is the set of occupied slots. -/
theorem statusReadouts : Obligations.StatusReadouts := by
  refine fun s c k hl => ⟨fun hc => ⟨(s.ctx c.toNat).attachWord, ?_, fun ha => ?_, Context.attachWord_toNat⟩,
    fun hk hmax => ⟨slotBitmap ((s.core k.toNat).occupied s.cfg.maxContexts), ?_, fun n hn => ?_⟩⟩
  · simp only [exec, execCtxStatus]
    rw [checkCtx_pass c s _ hc, perform_done _ s s _ hl]
    rfl
  · simp [Context.attachWord, ha]
  · simp only [exec, execCoreStatus]
    rw [checkCore_pass k s _ hk, perform_done _ s s _ hl, State.coreWords, Core.occupied_eq]
    rfl
  · rw [slotBitmap_getLsbD _ hn, Core.occupied_eq]
    simp

end Sys2Proof.Machine

/-! PROOFS. Status transitions and wakeup queues (41_queue_model.md): MARK_QUEUED, ISSUE, COMPLETE, WQ_INSERT, WQ_POP,
WQ_REMOVE. -/

namespace Sys2Proof.Machine

open Sys2Proof.Safety

/-! ### Writing one entry -/

theorem State.setEntry_ctx (s : State) (c : Nat) (b : Buf) (i : Nat) (e : Entry) (j : Nat) :
    (s.setEntry c b i e).ctx j = if j = c then (s.ctx c).setEntry b i e else s.ctx j := State.updCtx_ctx _ _ _ _

@[simp] theorem State.setEntry_core (s : State) (c : Nat) (b : Buf) (i : Nat) (e : Entry) (k : Nat) :
    (s.setEntry c b i e).core k = s.core k := rfl

/-- An entry read after an entry write. -/
theorem State.entry_setEntry (s : State) (c : Nat) (b : Buf) (i : Nat) (e : Entry) (j : Nat) (b' : Buf) (i' : Nat) :
    ((s.setEntry c b i e).ctx j).entry b' i' = if j = c ∧ b' = b ∧ i' = i then e else (s.ctx j).entry b' i' := by
  rw [State.setEntry_ctx]
  by_cases hj : j = c
  · subst hj
    simp [Context.entry_setEntry]
  · simp [hj]

/-- An entry write reaches the two buffers' contents only. -/
theorem Context.setEntry_rest (x : Context) (b : Buf) (i : Nat) (e : Entry) :
    { x.setEntry b i e with rob := x.rob, lsq := x.lsq } = x := by cases b <;> rfl

theorem State.setEntry_ctx_rest (s : State) (c : Nat) (b : Buf) (i : Nat) (e : Entry) (j : Nat) :
    { (s.setEntry c b i e).ctx j with rob := (s.ctx j).rob, lsq := (s.ctx j).lsq } = s.ctx j := by
  rw [State.setEntry_ctx]
  split
  · subst_vars
    exact Context.setEntry_rest _ b i e
  · rfl

theorem State.setEntry_ctx_core (s : State) (c : Nat) (b : Buf) (i : Nat) (e : Entry) (j : Nat) :
    ((s.setEntry c b i e).ctx j).core = (s.ctx j).core :=
  State.read_updCtx (fun x => x.core) (Context.setEntry_core _ b i e) j

theorem State.setEntry_ctx_icount (s : State) (c : Nat) (b : Buf) (i : Nat) (e : Entry) (j : Nat) :
    ((s.setEntry c b i e).ctx j).icount = (s.ctx j).icount :=
  State.read_updCtx (fun x => x.icount) (Context.setEntry_icount _ b i e) j

/-! ### Giving up an issue-queue slot -/

section Release

variable (c : Nat) (b : Buf) (i : Nat) (s : State)

/-- The entry read after its slot has been given up. -/
theorem releaseIqSlot_entry (j : Nat) (b' : Buf) (i' : Nat) :
    ((releaseIqSlot c b i s).ctx j).entry b' i'
      = if j = c ∧ b' = b ∧ i' = i then { (s.ctx c).entry b i with inIq := false } else (s.ctx j).entry b' i' := by
  obtain ⟨hiq, h⟩ | ⟨_, h⟩ := releaseIqSlot_cases c b i s
  · rw [h]
    split
    · obtain ⟨rfl, rfl, rfl⟩ := ‹_ ∧ _›
      rw [← hiq]
    · rfl
  · rw [h, State.updCtx_ctx]
    by_cases hj : j = c
    · subst hj
      simp only [if_true, true_and]
      exact Context.entry_setEntry _ b i _ b' i'
    · simp [hj]

theorem releaseIqSlot_ctx_rest (j : Nat) :
    { (releaseIqSlot c b i s).ctx j with rob := (s.ctx j).rob, lsq := (s.ctx j).lsq, icount := (s.ctx j).icount }
      = s.ctx j := by
  obtain ⟨_, h⟩ | ⟨_, h⟩ := releaseIqSlot_cases c b i s
  · rw [h]
  · rw [h, State.updCtx_ctx]
    split
    · subst_vars
      cases b <;> rfl
    · rfl

theorem releaseIqSlot_icount (j : Nat) :
    ((releaseIqSlot c b i s).ctx j).icount
      = (s.ctx j).icount - (if j = c then if ((s.ctx c).entry b i).inIq then 1 else 0 else 0) := by
  obtain ⟨hiq, h⟩ | ⟨hiq, h⟩ := releaseIqSlot_cases c b i s
  · simp [h, hiq]
  · rw [h, State.updCtx_ctx]
    split <;> simp_all

theorem releaseIqSlot_core_rest (k : Nat) :
    { (releaseIqSlot c b i s).core k with iqCount := (s.core k).iqCount } = s.core k := by
  obtain ⟨_, h⟩ | ⟨_, h⟩ := releaseIqSlot_cases c b i s
  · rw [h]
  · rw [h, State.updCtx_core, State.updCore_core]
    split
    · subst_vars
      rfl
    · rfl

theorem releaseIqSlot_iqCount (k : Nat) :
    ((releaseIqSlot c b i s).core k).iqCount
      = (s.core k).iqCount - (if k = (s.ctx c).core then if ((s.ctx c).entry b i).inIq then 1 else 0 else 0) := by
  obtain ⟨hiq, h⟩ | ⟨hiq, h⟩ := releaseIqSlot_cases c b i s
  · simp [h, hiq]
  · rw [h, State.updCtx_core, State.updCore_core]
    split <;> simp_all

theorem releaseIqSlot_around : SameAround s (releaseIqSlot c b i s) := by
  obtain ⟨_, h⟩ | ⟨_, h⟩ := releaseIqSlot_cases c b i s <;> rw [h]
  · exact ⟨rfl, rfl, rfl, rfl, rfl, rfl⟩
  · exact ⟨rfl, rfl, rfl, rfl, rfl, rfl⟩

end Release

/-! ### MARK_QUEUED, ISSUE, COMPLETE -/

section Status

variable {s : State} {c : BitVec 8} {b : Buf} {slot gen : Word}

theorem statusBody_some {f : Entry → Option Entry} {k : State → State} {e : Entry} (hc : c.toNat < s.cfg.numContexts)
    (hlive : s.live c.toNat b slot.toNat gen.toNat = true) (he : f ((s.ctx c.toNat).entry b slot.toNat) = some e) :
    statusBody c b slot gen s f k = .done (k (s.setEntry c.toNat b slot.toNat e)) (.ok []) := by
  rw [statusBody, checkHandle_pass hc hlive, he]

theorem statusBody_none {f : Entry → Option Entry} {k : State → State} (hc : c.toNat < s.cfg.numContexts)
    (hlive : s.live c.toNat b slot.toNat gen.toNat = true) (he : f ((s.ctx c.toNat).entry b slot.toNat) = none) :
    statusBody c b slot gen s f k = .fatal s .badTransition := by
  rw [statusBody, checkHandle_pass hc hlive, he]

end Status

theorem Entry.toQueued_of {e : Entry} (hd : e.dispatched = true) (hq : e.queued = false) :
    e.toQueued = some { e with queued := true } := by simp [Entry.toQueued, hd, hq]

theorem Entry.toIssued_of {e : Entry} (hq : e.queued = true) (hi : e.issued = false) :
    e.toIssued = some { e with issued := true } := by simp [Entry.toIssued, hq, hi]

theorem Entry.toCompleted_of {e : Entry} (hi : e.issued = true) (hc : e.completed = false) :
    e.toCompleted = some { e with completed := true } := by simp [Entry.toCompleted, hi, hc]

theorem Entry.toQueued_none {e : Entry} (h : ¬(e.dispatched = true ∧ e.queued = false)) : e.toQueued = none := by
  simp_all [Entry.toQueued]

theorem Entry.toIssued_none {e : Entry} (h : ¬(e.queued = true ∧ e.issued = false)) : e.toIssued = none := by
  simp_all [Entry.toIssued]

theorem Entry.toCompleted_none {e : Entry} (h : ¬(e.issued = true ∧ e.completed = false)) : e.toCompleted = none := by
  simp_all [Entry.toCompleted]

/-- Settles O33: the one entry is written, and an entry write reaches nothing but the buffers' contents. -/
theorem markQueuedAndCompleteSetTheirBit : Obligations.MarkQueuedAndCompleteSetTheirBit := by
  intro s c b slot gen hl hc hlive
  refine ⟨fun hd hq => ⟨_, (congrArg (perform _ s) (statusBody_some hc hlive (Entry.toQueued_of hd hq))).trans
      (perform_done _ s _ _ hl), rfl, ?_⟩,
    fun hi hc' => ⟨_, (congrArg (perform _ s) (statusBody_some hc hlive (Entry.toCompleted_of hi hc'))).trans
      (perform_done _ s _ _ hl), rfl, ?_⟩⟩
  all_goals exact ⟨fun j b' i => State.entry_setEntry s _ b _ _ j b' i, fun j => State.setEntry_ctx_rest s _ b _ _ j,
    fun _ => rfl, rfl, rfl, rfl, rfl, rfl, rfl, rfl⟩

/-- Settles O34: the entry is written, then its slot given up. -/
theorem issueReleasesIssueQueueSlot : Obligations.IssueReleasesIssueQueueSlot := by
  intro s c b slot gen hl hc hlive x e one hq hi
  have hentry : ∀ j b' i, ((s.setEntry c.toNat b slot.toNat { e with issued := true }).ctx j).entry b' i
      = if j = c.toNat ∧ b' = b ∧ i = slot.toNat then { e with issued := true } else (s.ctx j).entry b' i :=
    State.entry_setEntry s c.toNat b slot.toNat _
  have hself : ((s.setEntry c.toNat b slot.toNat { e with issued := true }).ctx c.toNat).entry b slot.toNat
      = { e with issued := true } := (hentry _ _ _).trans (if_pos ⟨rfl, rfl, rfl⟩)
  have hrest := State.setEntry_ctx_rest s c.toNat b slot.toNat { e with issued := true }
  refine ⟨_, (congrArg (perform _ s) (statusBody_some hc hlive (Entry.toIssued_of hq hi))).trans (perform_done _ s _ _ hl),
    rfl, fun j b' i => ?_, fun j => ?_, fun j => ?_, fun k => releaseIqSlot_core_rest _ _ _ _ k, fun k => ?_, ?_, ?_⟩
  · rw [State.answer_ctx, releaseIqSlot_entry, hself, hentry]
    split <;> rfl
  · have h := releaseIqSlot_ctx_rest c.toNat b slot.toNat (s.setEntry c.toNat b slot.toNat { e with issued := true }) j
    rw [State.answer_ctx, ← hrest j, ← h]
  · rw [State.answer_ctx, releaseIqSlot_icount, hself, State.setEntry_ctx_icount]
  · rw [State.answer_core, releaseIqSlot_iqCount, hself, State.setEntry_ctx_core, State.setEntry_core]
  · exact releaseIqSlot_nextSeq _ _ _ _
  · exact releaseIqSlot_around _ _ _ _

/-- Settles O35: each transition gives no entry exactly outside its premise. -/
theorem badTransitionIsFatal : Obligations.BadTransitionIsFatal := by
  intro s c b slot gen hl hc hlive
  refine ⟨fun h => ⟨_, (congrArg (perform _ s) (statusBody_none hc hlive (Entry.toQueued_none h))).trans
      (perform_fatal _ s _ _ hl), ?_⟩,
    fun h => ⟨_, (congrArg (perform _ s) (statusBody_none hc hlive (Entry.toIssued_none h))).trans
      (perform_fatal _ s _ _ hl), ?_⟩,
    fun h => ⟨_, (congrArg (perform _ s) (statusBody_none hc hlive (Entry.toCompleted_none h))).trans
      (perform_fatal _ s _ _ hl), ?_⟩⟩
  all_goals exact latched_raiseFatal s .badTransition _

/-! ### WQ_INSERT and WQ_REMOVE -/

theorem Membership.isOf_iff (m : Membership) (c : Nat) (b : Buf) (i : Nat) :
    m.isOf c b i = true ↔ m.ctx = c ∧ m.buf = b ∧ m.idx = i := by
  simp [Membership.isOf, and_assoc]

theorem queueKey_eq (q : Queue) (e : Entry) (key : Word) : queueKey q e key = if q = .ready then e.seq else key := by
  cases q <;> rfl

/-- Settles O36: one queue is replaced by itself with the membership appended. -/
theorem wqInsertAddsMembership : Obligations.WqInsertAddsMembership := by
  intro s k c q b slot gen key hl hk hc hslot hlive hcore
  have hexec : exec (.wqInsert k c q b slot gen key) s = perform (.wqInsert k c q b slot gen key) s
      (if ((s.core k.toNat).wq q).any (fun m => m.isOf c.toNat b slot.toNat) then .fatal s .wqDuplicate
      else .done (s.setWq k.toNat q ((s.core k.toNat).wq q ++ [⟨c.toNat, b, slot.toNat, gen.toNat,
        queueKey q ((s.ctx c.toNat).entry b slot.toNat) key⟩])) (.ok [])) := by
    simp only [exec, execWqInsert]
    rw [checkCore_pass k s _ hk, checkCtx_pass c s _ hc, checkQueueSlot_pass slot s _ hslot, checkLiveOn_pass hlive hcore]
  refine ⟨fun hnew => ?_, fun ⟨m, hm, hdup⟩ => ?_⟩
  · have hany : ¬ ((s.core k.toNat).wq q).any (fun m => m.isOf c.toNat b slot.toNat) = true := by
      rw [List.any_eq_true]
      rintro ⟨m, hm, hof⟩
      exact hnew m hm ((Membership.isOf_iff m _ _ _).mp hof)
    rw [hexec, if_neg hany, perform_done _ s _ _ hl, queueKey_eq]
    refine ⟨_, rfl, rfl, fun k' q' => ?_, fun _ _ _ => State.setWq_reg s _ _ _ _ _ _, fun _ _ => State.setWq_core_slotOf s _ _ _ _ _,
      fun _ => State.setWq_core_iqCount s _ _ _ _, fun _ => rfl, rfl, rfl, rfl, rfl, rfl, rfl, rfl⟩
    rw [State.answer_core, State.setWq_core_wq]
    by_cases h : k' = k.toNat ∧ q' = q
    · obtain ⟨rfl, rfl⟩ := h
      rfl
    · rw [if_neg h, if_neg h]
  · have hany : ((s.core k.toNat).wq q).any (fun m => m.isOf c.toNat b slot.toNat) = true :=
      List.any_eq_true.mpr ⟨m, hm, (Membership.isOf_iff m _ _ _).mpr hdup⟩
    rw [hexec, if_pos hany, perform_fatal _ s _ _ hl]
    exact ⟨_, rfl, latched_raiseFatal s .wqDuplicate _⟩

/-- Settles O38: what the queue's search finds is the membership taken off. -/
theorem wqRemoveTakesMembership : Obligations.WqRemoveTakesMembership := by
  intro s k c q b slot gen hl hk hc hslot hlive hcore
  let mine := fun m : Membership => m.isOf c.toNat b slot.toNat && decide (m.gen = gen.toNat)
  have hmine : ∀ m : Membership, mine m = true
      ↔ m.ctx = c.toNat ∧ m.buf = b ∧ m.idx = slot.toNat ∧ m.gen = gen.toNat := fun m => by
    simp [mine, Membership.isOf_iff, and_assoc]
  have hexec : exec (.wqRemove k c q b slot gen) s = perform (.wqRemove k c q b slot gen) s
      (match ((s.core k.toNat).wq q).find? mine with
      | none => .done s (.ok [0])
      | some m => .done (s.setWq k.toNat q (without m ((s.core k.toNat).wq q))) (.ok [1])) := by
    exact congrArg (perform _ s) ((checkCore_pass k s _ hk).trans ((checkCtx_pass c s _ hc).trans
      ((checkQueueSlot_pass slot s _ hslot).trans (checkLiveOn_pass hlive hcore))))
  refine ⟨fun hnone => ?_, fun ⟨m, hm, hof⟩ => ?_⟩
  · have hfind : ((s.core k.toNat).wq q).find? mine = none :=
      List.find?_eq_none.mpr fun m hm hmem => hnone m hm ((hmine m).mp hmem)
    rw [hexec, hfind]
    exact perform_done _ s s _ hl
  · obtain ⟨m', hfind⟩ := Option.isSome_iff_exists.mp (List.find?_isSome.mpr ⟨m, hm, (hmine m).mpr hof⟩)
    rw [hexec, hfind]
    refine ⟨m', _, List.mem_of_find?_eq_some hfind, (hmine m').mp (List.find?_some hfind), perform_done _ s _ _ hl, rfl,
      fun k' q' => ?_, fun _ _ _ => State.setWq_reg s _ _ _ _ _ _, fun _ _ => State.setWq_core_slotOf s _ _ _ _ _,
      fun _ => State.setWq_core_iqCount s _ _ _ _, fun _ => rfl, rfl, rfl, rfl, rfl, rfl, rfl, rfl⟩
    rw [State.answer_core, State.setWq_core_wq]
    rfl

/-! ### WQ_POP -/

theorem mem_eligible (q : Queue) (now : Word) (l : List Membership) (m : Membership) :
    m ∈ eligible q now l ↔ m ∈ l ∧ (q = .ready ∨ m.key ≤ now) := by
  cases q <;> simp [eligible]

theorem mem_leastKey (l : List Membership) (m : Membership) : m ∈ leastKey l ↔ m ∈ l ∧ ∀ m' ∈ l, m.key ≤ m'.key := by
  simp [leastKey]

/-- A pop may take the due memberships with the smallest due key. -/
theorem mem_popCandidates (k : Nat) (q : Queue) (s : State) (m : Membership) :
    m ∈ popCandidates k q s ↔ m ∈ (s.core k).wq q ∧ (q = .ready ∨ m.key ≤ s.now)
      ∧ ∀ m' ∈ (s.core k).wq q, q = .ready ∨ m'.key ≤ s.now → m.key ≤ m'.key := by
  simp only [popCandidates, mem_leastKey, mem_eligible, and_imp, and_assoc]

/-- A list that is not empty has a smallest key. -/
theorem exists_mem_leastKey {l : List Membership} {m : Membership} (hm : m ∈ l) : ∃ m', m' ∈ leastKey l := by
  obtain ⟨m', hm', hle⟩ := Finset.exists_min_image l.toFinset (fun m => m.key.toNat) ⟨m, List.mem_toFinset.mpr hm⟩
  exact ⟨m', (mem_leastKey l m').mpr ⟨List.mem_toFinset.mp hm', fun m'' hm'' =>
    BitVec.le_def.mpr (hle m'' (List.mem_toFinset.mpr hm''))⟩⟩

/-- A draw names a member of any list that is not empty. -/
theorem popChoice_mem {d : Nat} {l : List Membership} {m : Membership} (h : popChoice d l = some m) : m ∈ l := by
  cases l with
  | nil => cases h
  | cons a t => exact List.mem_of_getElem? h

theorem popChoice_none_iff {d : Nat} {l : List Membership} : popChoice d l = none ↔ l = [] := by
  cases l with
  | nil => simp [popChoice]
  | cons a t =>
    have hlt : d % (t.length + 1) < (a :: t).length := Nat.mod_lt _ (Nat.succ_pos _)
    simp only [popChoice, List.getElem?_eq_none_iff, reduceCtorEq, iff_false]
    omega

/-- Each member is named by some draw. -/
theorem exists_popChoice {l : List Membership} {m : Membership} (hm : m ∈ l) : ∃ d, popChoice d l = some m := by
  obtain ⟨d, hd, hget⟩ := List.mem_iff_getElem.mp hm
  cases l with
  | nil => cases hm
  | cons a t =>
    refine ⟨d, ?_⟩
    have hmod : d % (t.length + 1) = d := Nat.mod_eq_of_lt hd
    rw [popChoice, hmod, List.getElem?_eq_getElem hd, hget]

theorem exec_wqPop_some {s : State} {k : BitVec 8} {q : Queue} {m : Membership} (hl : s.latch.set = false)
    (hk : k.toNat < s.cfg.numCores) (hm : popChoice s.nextDraw (popCandidates k.toNat q s) = some m) :
    exec (.wqPop k q) s = .next ((s.afterDraw.setWq k.toNat q (without m ((s.core k.toNat).wq q))).answer (.ok m.words)) := by
  simp only [exec, execWqPop]
  rw [checkCore_pass k s _ hk, hm]
  exact perform_done _ s _ _ hl

theorem exec_wqPop_none {s : State} {k : BitVec 8} {q : Queue} (hl : s.latch.set = false) (hk : k.toNat < s.cfg.numCores)
    (hempty : popCandidates k.toNat q s = []) : exec (.wqPop k q) s = .next (s.answer .empty) := by
  simp only [exec, execWqPop]
  rw [checkCore_pass k s _ hk, popChoice_none_iff.mpr hempty]
  exact perform_done _ s s _ hl

/-- Settles O37: the candidates are the members with the smallest due key, and the draw names any of them. -/
theorem wqPopTakesLeastDueKey : Obligations.WqPopTakesLeastDueKey := by
  intro s k q hl hk l due least words
  have hmem : ∀ m, m ∈ popCandidates k.toNat q s ↔ least m := mem_popCandidates k.toNat q s
  have hwords : ∀ m : Membership, m.words = words m := fun ⟨_, b, _, _, _⟩ => by cases b <;> rfl
  refine ⟨fun hnone => ?_, fun ⟨m, hm, hdue⟩ => ?_, fun m hm => ?_⟩
  · have hempty : popCandidates k.toNat q s = [] :=
      List.eq_nil_iff_forall_not_mem.mpr fun m hm => hnone m ((hmem m).mp hm).1 ((hmem m).mp hm).2.1
    exact exec_wqPop_none hl hk hempty
  · obtain ⟨m0, hm0⟩ := exists_mem_leastKey ((mem_eligible q s.now l m).mpr ⟨hm, hdue⟩)
    obtain ⟨m', hm'⟩ := Option.ne_none_iff_exists'.mp fun h =>
      List.ne_nil_of_mem hm0 ((popChoice_none_iff (d := s.nextDraw)).mp h)
    have hleast := (hmem m').mp (popChoice_mem hm')
    refine ⟨m', _, hleast, exec_wqPop_some hl hk hm', congrArg (some ∘ Response.ok) (hwords m'), fun k' q' => ?_,
      fun _ _ _ => State.setWq_reg _ _ _ _ _ _ _, fun _ _ => State.setWq_core_slotOf _ _ _ _ _ _,
      fun _ => State.setWq_core_iqCount _ _ _ _ _, fun _ => rfl, rfl, rfl, rfl, rfl, rfl, rfl, rfl, fun hok => ?_⟩
    · rw [State.answer_core, State.setWq_core_wq]
      rfl
    · obtain ⟨_, _, _, _, _, hqueues, _, _⟩ := hok
      exact ((hqueues k.toNat hk q (by cases q <;> decide)).1 m' hleast.1).2.1
  · obtain ⟨d, hd⟩ := exists_popChoice ((hmem m).mpr hm)
    exact ⟨d, _, exec_wqPop_some (s := { s with env := { s.env with draws := d :: s.env.draws } }) hl hk hd,
      congrArg (some ∘ Response.ok) (hwords m)⟩

end Sys2Proof.Machine

/-! PROOFS. DISPATCH (40_dispatch_rename.md R154): the state its writes lead to, read field by field, and its checks. -/

namespace Sys2Proof.Machine

open Sys2Proof.Safety Sys2Proof.Config

/-! ### The state after the writes -/

/-- A rename table with the entry of `a` naming the register taken, if one is. -/
def renamed (t : Table Nat) (a : Nat) : Option (Nat × Nat) → Table Nat
  | none => t
  | some d => Table.put t a d.1

/-- The context as a DISPATCH that finds every resource leaves it; `dest` is the register taken and the mapping displaced. -/
def Context.dispatched (x : Context) (kl : OpClass) (p : DispatchWords) (seq : Word) (dest : Option (Nat × Nat)) : Context :=
  let y := { x with rename := renamed x.rename p.archreg.toNat dest, icount := x.icount + 1 }
  let z := y.appendRob (robEntryOf kl p seq dest)
  if isMem kl then z.appendLsq (lsqEntryOf kl p seq) else z

section Dispatched

variable (x : Context) (kl : OpClass) (p : DispatchWords) (seq : Word) (dest : Option (Nat × Nat))

/-- The LSQ part of a DISPATCH of a load or store. -/
theorem Context.dispatched_mem (h : isMem kl = true) :
    x.dispatched kl p seq dest = Context.appendLsq (Context.appendRob
      { x with rename := renamed x.rename p.archreg.toNat dest, icount := x.icount + 1 } (robEntryOf kl p seq dest))
      (lsqEntryOf kl p seq) := if_pos h

theorem Context.dispatched_not_mem (h : isMem kl = false) :
    x.dispatched kl p seq dest = Context.appendRob
      { x with rename := renamed x.rename p.archreg.toNat dest, icount := x.icount + 1 } (robEntryOf kl p seq dest) :=
  if_neg (by simp [h])

/-- A reading of a context that the two appends, the rename table and `icount` do not reach. -/
theorem Context.read_dispatched {α : Type} (g : Context → α)
    (hrob : ∀ (y : Context) (e : Entry), g (y.appendRob e) = g y) (hlsq : ∀ (y : Context) (e : Entry), g (y.appendLsq e) = g y)
    (hx : ∀ t n, g { x with rename := t, icount := n } = g x) : g (x.dispatched kl p seq dest) = g x := by
  cases h : isMem kl
  · rw [x.dispatched_not_mem kl p seq dest h, hrob, hx]
  · rw [x.dispatched_mem kl p seq dest h, hlsq, hrob, hx]

@[simp] theorem Context.dispatched_attached : (x.dispatched kl p seq dest).attached = x.attached :=
  x.read_dispatched kl p seq dest (fun y => y.attached) (fun _ _ => rfl) (fun _ _ => rfl) fun _ _ => rfl
@[simp] theorem Context.dispatched_core : (x.dispatched kl p seq dest).core = x.core :=
  x.read_dispatched kl p seq dest (fun y => y.core) (fun _ _ => rfl) (fun _ _ => rfl) fun _ _ => rfl
@[simp] theorem Context.dispatched_slot : (x.dispatched kl p seq dest).slot = x.slot :=
  x.read_dispatched kl p seq dest (fun y => y.slot) (fun _ _ => rfl) (fun _ _ => rfl) fun _ _ => rfl
@[simp] theorem Context.dispatched_wreg : (x.dispatched kl p seq dest).wreg = x.wreg :=
  x.read_dispatched kl p seq dest (fun y => y.wreg) (fun _ _ => rfl) (fun _ _ => rfl) fun _ _ => rfl
@[simp] theorem Context.dispatched_ifq : (x.dispatched kl p seq dest).ifq = x.ifq :=
  x.read_dispatched kl p seq dest (fun y => y.ifq) (fun _ _ => rfl) (fun _ _ => rfl) fun _ _ => rfl
@[simp] theorem Context.dispatched_ifqRing : (x.dispatched kl p seq dest).ifqRing = x.ifqRing :=
  x.read_dispatched kl p seq dest (fun y => y.ifqRing) (fun _ _ => rfl) (fun _ _ => rfl) fun _ _ => rfl
@[simp] theorem Context.dispatched_fetchPc : (x.dispatched kl p seq dest).fetchPc = x.fetchPc :=
  x.read_dispatched kl p seq dest (fun y => y.fetchPc) (fun _ _ => rfl) (fun _ _ => rfl) fun _ _ => rfl
@[simp] theorem Context.dispatched_fetchStallUntil : (x.dispatched kl p seq dest).fetchStallUntil = x.fetchStallUntil :=
  x.read_dispatched kl p seq dest (fun y => y.fetchStallUntil) (fun _ _ => rfl) (fun _ _ => rfl) fun _ _ => rfl

@[simp] theorem Context.dispatched_robRing : (x.dispatched kl p seq dest).robRing = x.robRing.pushTail := by
  cases h : isMem kl <;> simp [Context.dispatched, h]

@[simp] theorem Context.dispatched_icount : (x.dispatched kl p seq dest).icount = x.icount + 1 := by
  cases h : isMem kl <;> simp [Context.dispatched, h]

@[simp] theorem Context.dispatched_rename :
    (x.dispatched kl p seq dest).rename = renamed x.rename p.archreg.toNat dest := by
  cases h : isMem kl <;> simp [Context.dispatched, h]

theorem Context.dispatched_lsqRing :
    (x.dispatched kl p seq dest).lsqRing = if isMem kl then x.lsqRing.pushTail else x.lsqRing := by
  cases h : isMem kl <;> simp [Context.dispatched, h]

theorem Context.dispatched_entry_rob (j : Nat) :
    (x.dispatched kl p seq dest).entry .rob j
      = if j = x.robRing.tail then robEntryOf kl p seq dest else x.entry .rob j := by
  cases h : isMem kl <;> simp [Context.dispatched, h, Context.entry, Table.get_put]

theorem Context.dispatched_entry_lsq (h : isMem kl = true) (j : Nat) :
    (x.dispatched kl p seq dest).entry .lsq j
      = if j = x.lsqRing.tail then lsqEntryOf kl p seq else x.entry .lsq j := by
  simp [Context.dispatched, h, Context.entry, Table.get_put]

theorem Context.dispatched_gen_rob (j : Nat) :
    (x.dispatched kl p seq dest).gen .rob j
      = if j = x.robRing.tail then x.gen .rob x.robRing.tail + 1 else x.gen .rob j := by
  cases h : isMem kl <;> simp [Context.dispatched, h, Context.gen, Table.get_put]

theorem Context.dispatched_gen_lsq (h : isMem kl = true) (j : Nat) :
    (x.dispatched kl p seq dest).gen .lsq j
      = if j = x.lsqRing.tail then x.gen .lsq x.lsqRing.tail + 1 else x.gen .lsq j := by
  simp [Context.dispatched, h, Context.gen, Table.get_put]

/-- For an instruction that is no load or store the LSQ is as before. -/
theorem Context.dispatched_lsq_of_not_mem (h : isMem kl = false) :
    (x.dispatched kl p seq dest).lsq = x.lsq ∧ (x.dispatched kl p seq dest).lsqGen = x.lsqGen
      ∧ (x.dispatched kl p seq dest).lsqRing = x.lsqRing := by
  rw [x.dispatched_not_mem kl p seq dest h]
  exact ⟨rfl, rfl, rfl⟩

end Dispatched

/-- What the allocation step of DISPATCH takes. -/
theorem dispatchDest_snd (c a : Nat) (kl : OpClass) (s : State) :
    (dispatchDest c kl a s).2
      = if kl.dest = .none then none
        else (s.findFree (s.ctx c).core (bankOf a)).map (fun q => (q, (s.ctx c).renameOf a)) := by
  unfold dispatchDest
  split
  · rfl
  · unfold allocPhysreg
    cases s.findFree (s.ctx c).core (bankOf a) <;> rfl

/-- The state with register `d.1` allocated to `a` by context `c`, if one is taken. -/
def State.withDest (s : State) (c a : Nat) : Option (Nat × Nat) → State
  | none => s
  | some d => (s.setReg (s.ctx c).core (bankOf a) d.1 (.allocated s.now)).updCtx c (fun x =>
      { x with rename := Table.put x.rename a d.1 })

section WithDest

variable (s : State) (c a : Nat) (dest : Option (Nat × Nat))

theorem State.withDest_ctx (j : Nat) :
    (s.withDest c a dest).ctx j = if j = c then { s.ctx c with rename := renamed (s.ctx c).rename a dest } else s.ctx j := by
  cases dest with
  | none =>
    split
    · subst_vars
      rfl
    · rfl
  | some d => exact State.updCtx_ctx _ _ _ _

theorem State.withDest_core_ne {k : Nat} (hk : k ≠ (s.ctx c).core) : (s.withDest c a dest).core k = s.core k := by
  cases dest with
  | none => rfl
  | some d => exact State.setReg_core_ne s _ _ _ hk

/-- A reading of the cores that no register write reaches. -/
theorem State.read_withDest {α : Type} (g : Core → α) (hg : ∀ x b q r, g (Core.setReg x b q r) = g x) (k : Nat) :
    g ((s.withDest c a dest).core k) = g (s.core k) := by
  cases dest with
  | none => rfl
  | some d => exact State.read_updCore (f := fun x => x.setReg (bankOf a) d.1 (.allocated s.now)) g (hg _ _ _ _) k

theorem State.withDest_reg (k : Nat) (b : Bank) (r : Nat) :
    (s.withDest c a dest).reg k b r
      = if k = (s.ctx c).core ∧ b = bankOf a ∧ dest.map Prod.fst = some r then .allocated s.now else s.reg k b r := by
  cases dest with
  | none => simp [State.withDest]
  | some d =>
    refine (State.reg_setReg s _ _ _ _ k b r).trans ?_
    simp [eq_comm]

/-- The allocation step reaches nothing outside the engine. -/
theorem State.withDest_around : SameAround s (s.withDest c a dest) := by
  cases dest <;> exact ⟨rfl, rfl, rfl, rfl, rfl, rfl⟩

end WithDest

/-- The allocation step as one update of a register and one of the context, where it takes a register. -/
theorem dispatchDest_fst (c a : Nat) (kl : OpClass) (s : State) :
    (dispatchDest c kl a s).1 = s.withDest c a (dispatchDest c kl a s).2 := by
  obtain h | ⟨s', p, old, halloc, h⟩ := dispatchDest_cases c a kl s
  · rw [h]
    rfl
  · obtain ⟨_, _, rfl⟩ := allocPhysreg_some c a s s' p old halloc
    rw [h]
    rfl

section Write

variable (c : Nat) (kl : OpClass) (p : DispatchWords) (s : State)

/-- The register and the mapping a DISPATCH takes. -/
abbrev takes : Option (Nat × Nat) := (dispatchDest c kl p.archreg.toNat s).2

theorem dispatchWrite_ctx_same :
    (dispatchWrite c kl p s).ctx c = (s.ctx c).dispatched kl p s.eng.nextSeq (takes c kl p s) := by
  have hdest := s.withDest_ctx c p.archreg.toNat (takes c kl p s) c
  rw [if_pos rfl] at hdest
  cases h : isMem kl <;> simp [dispatchWrite, h, takeIqSlot, dispatchDest_fst, hdest, Context.dispatched]

theorem dispatchWrite_ctx_ne {j : Nat} (hj : j ≠ c) : (dispatchWrite c kl p s).ctx j = s.ctx j := by
  have hdest := s.withDest_ctx c p.archreg.toNat (takes c kl p s) j
  rw [if_neg hj] at hdest
  cases h : isMem kl <;> simp [dispatchWrite, h, takeIqSlot, dispatchDest_fst, hdest, State.updCtx_ctx_ne _ _ hj]

/-- Of the cores a DISPATCH changes the bank of the register and the issue-queue count. -/
theorem dispatchWrite_core (k : Nat) :
    (dispatchWrite c kl p s).core k
      = ((s.withDest c p.archreg.toNat (takes c kl p s)).updCore (s.ctx c).core
          (fun x => { x with iqCount := x.iqCount + 1 })).core k := by
  cases h : isMem kl <;> simp [dispatchWrite, h, takeIqSlot, dispatchDest_fst]

theorem dispatchWrite_core_ne {k : Nat} (hk : k ≠ (s.ctx c).core) : (dispatchWrite c kl p s).core k = s.core k := by
  rw [dispatchWrite_core, State.updCore_core_ne _ _ hk, State.withDest_core_ne s c _ _ hk]

theorem dispatchWrite_iqCount (k : Nat) :
    ((dispatchWrite c kl p s).core k).iqCount = (s.core k).iqCount + if k = (s.ctx c).core then 1 else 0 := by
  rw [dispatchWrite_core, State.updCore_core]
  split
  · subst_vars
    exact congrArg (· + 1) (State.read_withDest s c _ _ (fun x => x.iqCount) (fun x b q r => Core.setReg_iqCount x b q r) _)
  · exact State.read_withDest s c _ _ (fun x => x.iqCount) (fun x b q r => Core.setReg_iqCount x b q r) _

theorem dispatchWrite_wq (k : Nat) (q : Queue) : ((dispatchWrite c kl p s).core k).wq q = (s.core k).wq q := by
  rw [dispatchWrite_core]
  exact (State.read_updCore (fun x => x.wq q) (by cases q <;> rfl) k).trans
    (State.read_withDest s c _ _ (fun x => x.wq q) (fun x b p r => Core.wq_setReg x b p r q) k)

theorem dispatchWrite_slotOf (k n : Nat) : ((dispatchWrite c kl p s).core k).slotOf n = (s.core k).slotOf n := by
  rw [dispatchWrite_core]
  exact (State.read_updCore (fun x => x.slotOf n) rfl k).trans
    (State.read_withDest s c _ _ (fun x => x.slotOf n) (fun x b p r => Core.slotOf_setReg x b p r n) k)

theorem dispatchWrite_reg (k : Nat) (b : Bank) (r : Nat) :
    (dispatchWrite c kl p s).reg k b r
      = if k = (s.ctx c).core ∧ b = bankOf p.archreg.toNat ∧ (takes c kl p s).map Prod.fst = some r
        then .allocated s.now else s.reg k b r := by
  rw [← State.withDest_reg]
  have hcore := dispatchWrite_core c kl p s k
  rw [State.reg, hcore]
  exact State.reg_updCore (fun b => by cases b <;> rfl) k b r

/-- Outside the engine a DISPATCH changes the environment's counters alone. -/
theorem dispatchWrite_around :
    (dispatchWrite c kl p s).cfg = s.cfg ∧ (dispatchWrite c kl p s).latch = s.latch
      ∧ (dispatchWrite c kl p s).trace = s.trace ∧ (dispatchWrite c kl p s).port = s.port
      ∧ (dispatchWrite c kl p s).now = s.now ∧ (dispatchWrite c kl p s).env
        = { s.env with
            insnGlobal := s.env.insnGlobal + 1
            insn := Table.put s.env.insn c (Table.get 0 s.env.insn c + 1) } := by
  obtain ⟨hcfg, hlatch, htrace, henv, hport, hnow⟩ := State.withDest_around s c p.archreg.toNat (takes c kl p s)
  cases h : isMem kl
  all_goals
    simp only [dispatchWrite, h, dispatchDest_fst, if_true, if_false, Bool.false_eq_true, takeIqSlot, State.countAdd, State.updCtx_cfg,
      State.updCtx_latch, State.updCtx_trace, State.updCtx_port, State.updCtx_now, State.updCtx_env, State.bumpSeq_cfg,
      State.bumpSeq_latch, State.bumpSeq_trace, State.bumpSeq_port, State.bumpSeq_now, State.bumpSeq_env,
      State.updCore_cfg, State.updCore_latch, State.updCore_trace, State.updCore_port, State.updCore_now,
      State.updCore_env, hcfg, hlatch, htrace, henv, hport, hnow, and_self]

end Write

/-! ### Where DISPATCH writes -/

theorem isFree_findFree_none_iff (s : State) (k : Nat) (b : Bank) :
    s.findFree k b = none ↔ ∀ q < s.cfg.prfBankSize, (s.reg k b q).state ≠ .free := by
  simp only [State.findFree_none, State.isFree_eq_false_iff]

theorem dispatchStall_of_dispatchable {s : State} {c : BitVec 8} {p : DispatchWords} (h : Dispatchable s c p) :
    dispatchStall c.toNat (classify s.cfg p.opcode) p.archreg.toNat s = none := by
  obtain ⟨_, _, _, _, _, hrob, hlsq, hiq, hreg⟩ := h
  unfold dispatchStall
  rw [if_neg hrob, if_neg fun hfull => hlsq hfull.1 hfull.2, if_neg hiq, if_neg fun hnone => ?_]
  have := hreg hnone.1
  rw [hnone.2] at this
  cases this

theorem exec_dispatch {s : State} {c : BitVec 8} {p : DispatchWords} (h : Dispatchable s c p) :
    exec (.dispatch c p) s = .next ((dispatchWrite c.toNat (classify s.cfg p.opcode) p s).answer
      (.ok (dispatchWords c.toNat (classify s.cfg p.opcode) p s))) := by
  have hstall := dispatchStall_of_dispatchable h
  obtain ⟨hl, hc, ha, hfits, hsize, _⟩ := h
  have hsize' : ¬ (isMem (classify s.cfg p.opcode) && !sizeLegal p.memSize) = true := by
    cases hmem : isMem (classify s.cfg p.opcode) <;> simp_all
  simp only [exec, execDispatch, dispatchBody]
  rw [checkCtx_pass c s _ hc, checkAttached_pass c s _ ha, if_neg (by simp [hfits]), if_neg hsize', hstall]
  exact perform_done _ s _ _ hl

theorem takes_eq_destOf (s : State) (c : BitVec 8) (p : DispatchWords) :
    takes c.toNat (classify s.cfg p.opcode) p s = destOf s c p := dispatchDest_snd _ _ _ s

/-- Settles O24: the readings of `dispatchWrite` at the ROB, the counts and the sequence counter. -/
theorem dispatchCreatesRobEntry : Obligations.DispatchCreatesRobEntry := by
  intro s c p h x kl dest
  have hdest : takes c.toNat kl p s = dest := takes_eq_destOf s c p
  have hctx := dispatchWrite_ctx_same c.toNat kl p s
  rw [hdest] at hctx
  refine ⟨_, exec_dispatch h, ?_, ?_, fun j hj => ⟨?_, ?_⟩, ?_, ?_, ?_, ?_, dispatchWrite_nextSeq c.toNat kl p s⟩
  · rw [← hdest]
    rfl
  · rw [State.answer_ctx, hctx, Context.dispatched_entry_rob, if_pos rfl]
    simp only [robEntryOf, entryBase, Entry.blank, BitVec.ofNat_toNat]
  · rw [State.answer_ctx, hctx, Context.dispatched_entry_rob, if_neg hj]
  · rw [State.answer_ctx, hctx, Context.dispatched_gen_rob, if_neg hj]
  · rw [State.answer_ctx, hctx, Context.dispatched_gen_rob, if_pos rfl]
  · rw [State.answer_ctx, hctx, Context.dispatched_robRing]
    rfl
  · rw [State.answer_ctx, hctx, Context.dispatched_icount]
  · rw [State.answer_core, dispatchWrite_iqCount, if_pos rfl]

/-- Settles O25: the one register and the one rename entry that `dispatchWrite` writes. -/
theorem dispatchRenamesDestination : Obligations.DispatchRenamesDestination := by
  intro s t c p h ht x bank
  cases (exec_dispatch h).symm.trans ht
  have hdest := takes_eq_destOf s c p
  have hctx := dispatchWrite_ctx_same c.toNat (classify s.cfg p.opcode) p s
  have hreg := dispatchWrite_reg c.toNat (classify s.cfg p.opcode) p s
  rw [hdest] at hctx
  rw [hdest] at hreg
  refine ⟨fun hnone => ?_, fun hsome => ?_⟩
  · have hd : destOf s c p = none := if_pos hnone
    rw [hd] at hctx hreg
    refine ⟨fun k b r => (hreg k b r).trans (if_neg nofun), fun a => ?_⟩
    rw [State.answer_ctx, hctx, Context.renameOf, Context.dispatched_rename]
    rfl
  · obtain ⟨_, _, _, _, _, _, _, _, hfind⟩ := h
    obtain ⟨q, hq⟩ := Option.isSome_iff_exists.mp (hfind hsome)
    have hd : destOf s c p = some (q, x.renameOf p.archreg.toNat) := by
      rw [destOf, if_neg hsome, hq]
      rfl
    rw [hd] at hctx hreg
    obtain ⟨hlt, hfree, hlower⟩ := (State.findFree_some s _ _ q).mp hq
    refine ⟨q, hlt, (State.isFree_eq_true_iff s _ _ q).mp hfree, fun r hr => (State.isFree_eq_false_iff s _ _ r).mp (hlower r hr),
      hd, fun k b r => ?_, fun a => ?_⟩
    · refine (hreg k b r).trans ?_
      simp only [Option.map_some, Option.some.injEq, eq_comm (a := q)]
      rfl
    · rw [State.answer_ctx, hctx, Context.renameOf, Context.dispatched_rename]
      exact Table.get_put _ _ _ _ _

/-- Settles O26: the readings of `dispatchWrite` at the LSQ. -/
theorem dispatchCreatesLsqEntry : Obligations.DispatchCreatesLsqEntry := by
  intro s t c p h ht x y kl
  cases (exec_dispatch h).symm.trans ht
  have hctx : y = x.dispatched kl p s.eng.nextSeq (takes c.toNat kl p s) := dispatchWrite_ctx_same c.toNat kl p s
  rw [hctx]
  refine ⟨fun hmem => ⟨?_, fun j hj => ⟨?_, ?_⟩, ?_, ?_⟩, Context.dispatched_lsq_of_not_mem _ _ _ _ _⟩
  · rw [Context.dispatched_entry_lsq _ _ _ _ _ hmem, if_pos rfl]
    simp only [lsqEntryOf, entryBase, Entry.blank, BitVec.ofNat_toNat]
  · rw [Context.dispatched_entry_lsq _ _ _ _ _ hmem, if_neg hj]
  · rw [Context.dispatched_gen_lsq _ _ _ _ _ hmem, if_neg hj]
  · rw [Context.dispatched_gen_lsq _ _ _ _ _ hmem, if_pos rfl]
  · rw [Context.dispatched_lsqRing, if_pos hmem]
    rfl

/-- Settles O27: what the readings of `dispatchWrite` leave alone. -/
theorem dispatchFrame : Obligations.DispatchFrame := by
  intro s t c p h ht x y
  cases (exec_dispatch h).symm.trans ht
  have hctx : y = x.dispatched (classify s.cfg p.opcode) p s.eng.nextSeq (takes c.toNat (classify s.cfg p.opcode) p s) :=
    dispatchWrite_ctx_same c.toNat _ p s
  obtain ⟨hcfg, hlatch, htrace, hport, hnow, henv⟩ := dispatchWrite_around c.toNat (classify s.cfg p.opcode) p s
  rw [hctx]
  refine ⟨by simp, by simp, by simp, by simp, by simp, by simp, by simp, by simp,
    fun j hj => dispatchWrite_ctx_ne _ _ _ _ hj, fun j hj => dispatchWrite_core_ne _ _ _ _ hj,
    fun n => dispatchWrite_slotOf _ _ _ _ _ n, fun q => dispatchWrite_wq _ _ _ _ _ q, hcfg, hlatch, htrace, hport, hnow,
    fun a => ?_, ?_, ?_, ?_, fun j => ?_⟩
  all_goals rw [State.answer_env, henv]
  rw [Table.get_put]
  split
  · subst_vars
    rfl
  · exact (add_zero _).symm

/-! ### The checks of DISPATCH -/

theorem archregFits_eq_false_iff (dt : OpType) (a : Word) :
    archregFits dt a = false
      ↔ dt = .int ∧ 32 ≤ a.toNat ∨ dt = .fp ∧ ¬(32 ≤ a.toNat ∧ a.toNat < 64) := by
  cases dt with
  | none => simp [archregFits]
  | int => simp [archregFits]
  | fp =>
    simp only [archregFits, Bool.and_eq_false_iff, decide_eq_false_iff_not, reduceCtorEq, false_and, true_and, false_or]
    omega

theorem sizeLegal_iff (n : Word) : sizeLegal n = true ↔ n = 1 ∨ n = 2 ∨ n = 4 ∨ n = 8 := by
  simp [sizeLegal, or_assoc]

/-- The body of DISPATCH for an attached context, its checks in their order. -/
theorem exec_dispatch_attached {s : State} {c : BitVec 8} {p : DispatchWords} (hc : c.toNat < s.cfg.numContexts)
    (ha : (s.ctx c.toNat).attached = true) {r : Ran}
    (hr : (if !archregFits (classify s.cfg p.opcode).dest p.archreg then .done s (.illegal .badArchreg)
      else if isMem (classify s.cfg p.opcode) && !sizeLegal p.memSize then .done s (.illegal .badSize)
      else match dispatchStall c.toNat (classify s.cfg p.opcode) p.archreg.toNat s with
        | some r => .done s (.stall r)
        | none => .done (dispatchWrite c.toNat (classify s.cfg p.opcode) p s)
            (.ok (dispatchWords c.toNat (classify s.cfg p.opcode) p s))) = r) :
    exec (.dispatch c p) s = perform (.dispatch c p) s r :=
  congrArg (perform (.dispatch c p) s) ((checkCtx_pass c s _ hc).trans ((checkAttached_pass c s _ ha).trans hr))

/-- Settles O28: each clause takes the branch its premises select. -/
theorem dispatchRefusedChangesNothing : Obligations.DispatchRefusedChangesNothing := by
  intro s c p hl hc ha x kl badReg badSize lsqFull noReg answers
  have hfits : archregFits kl.dest p.archreg = false ↔ badReg := archregFits_eq_false_iff _ _
  have hsize : (isMem kl && !sizeLegal p.memSize) = true ↔ badSize := by
    rw [Bool.and_eq_true, Bool.not_eq_true', ← Bool.not_eq_true, sizeLegal_iff]
  have hstall : ∀ r, ¬badReg → ¬badSize → dispatchStall c.toNat kl p.archreg.toNat s = some r → answers (.stall r) := by
    intro r hreg hsz hstall
    refine (exec_dispatch_attached hc ha ?_).trans (perform_done _ s s _ hl)
    rw [if_neg (by simpa using mt hfits.mp hreg), if_neg (mt hsize.mp hsz), hstall]
  refine ⟨fun hreg => ?_, fun hreg hsz => ?_, fun hreg hsz hrob => hstall _ hreg hsz ?_,
    fun hreg hsz hrob hlsq => hstall _ hreg hsz ?_, fun hreg hsz hrob hlsq hiq => hstall _ hreg hsz ?_,
    fun hreg hsz hrob hlsq hiq hno => hstall _ hreg hsz ?_⟩
  · exact (exec_dispatch_attached hc ha (if_pos (by simpa using hfits.mpr hreg))).trans (perform_done _ s s _ hl)
  · exact (exec_dispatch_attached hc ha ((if_neg (by simpa using mt hfits.mp hreg)).trans
      (if_pos (hsize.mpr hsz)))).trans (perform_done _ s s _ hl)
  · rw [dispatchStall, if_pos hrob]
  · rw [dispatchStall, if_neg hrob, if_pos hlsq]
  · rw [dispatchStall, if_neg hrob, if_neg hlsq, if_pos hiq]
  · rw [dispatchStall, if_neg hrob, if_neg hlsq, if_neg hiq,
      if_pos ⟨hno.1, (isFree_findFree_none_iff s _ _).mpr hno.2⟩]

end Sys2Proof.Machine

/-! PROOFS. COMMIT (42_commit.md R230): the register step, the removal of the head, and the outcomes in their order. -/

namespace Sys2Proof.Machine

open Sys2Proof.Safety

/-! ### States that differ in the registers of one core alone -/

/-- Nothing but registers of core `k` differs. -/
structure RegsOnly (k : Nat) (s t : State) : Prop where
  ctx : SameCtxs s t
  wq : ∀ j q, (t.core j).wq q = (s.core j).wq q
  slotOf : ∀ j n, (t.core j).slotOf n = (s.core j).slotOf n
  iqCount : ∀ j, (t.core j).iqCount = (s.core j).iqCount
  core_ne : SameCoresBut k s t
  nextSeq : t.eng.nextSeq = s.eng.nextSeq
  around : SameAround s t

theorem SameAround.trans {s t u : State} (h : SameAround s t) (h' : SameAround t u) : SameAround s u := by
  obtain ⟨h1, h2, h3, h4, h5, h6⟩ := h
  obtain ⟨h1', h2', h3', h4', h5', h6'⟩ := h'
  exact ⟨h1'.trans h1, h2'.trans h2, h3'.trans h3, h4'.trans h4, h5'.trans h5, h6'.trans h6⟩

theorem RegsOnly.refl (k : Nat) (s : State) : RegsOnly k s s :=
  ⟨fun _ => rfl, fun _ _ => rfl, fun _ _ => rfl, fun _ => rfl, fun _ _ => rfl, rfl, rfl, rfl, rfl, rfl, rfl, rfl⟩

theorem RegsOnly.trans {k : Nat} {s t u : State} (h : RegsOnly k s t) (h' : RegsOnly k t u) : RegsOnly k s u where
  ctx j := (h'.ctx j).trans (h.ctx j)
  wq j q := (h'.wq j q).trans (h.wq j q)
  slotOf j n := (h'.slotOf j n).trans (h.slotOf j n)
  iqCount j := (h'.iqCount j).trans (h.iqCount j)
  core_ne j hj := (h'.core_ne j hj).trans (h.core_ne j hj)
  nextSeq := h'.nextSeq.trans h.nextSeq
  around := SameAround.trans h.around h'.around

theorem RegsOnly.setRegState (s : State) (k : Nat) (b : Bank) (p : Nat) (st : RegState) :
    RegsOnly k s (s.setRegState k b p st) where
  ctx _ := rfl
  wq j q := State.setRegState_core_wq s k b p st j q
  slotOf j n := State.setRegState_core_slotOf s k b p st j n
  iqCount j := State.setRegState_core_iqCount s k b p st j
  core_ne _ hj := State.setRegState_core_ne s b p st hj
  nextSeq := rfl
  around := ⟨rfl, rfl, rfl, rfl, rfl, rfl⟩

/-! ### RemoveFromAllQueues -/

@[simp] theorem removeFromAllQueues_slotOf (k c : Nat) (b : Buf) (i : Nat) (s : State) (j n : Nat) :
    ((removeFromAllQueues k c b i s).core j).slotOf n = (s.core j).slotOf n :=
  State.read_updCore (fun x => x.slotOf n) rfl j

@[simp] theorem removeFromAllQueues_iqCount (k c : Nat) (b : Buf) (i : Nat) (s : State) (j : Nat) :
    ((removeFromAllQueues k c b i s).core j).iqCount = (s.core j).iqCount :=
  State.read_updCore (fun x => x.iqCount) rfl j

theorem removeFromAllQueues_core_ne (c : Nat) (b : Buf) (i : Nat) (s : State) {k j : Nat} (h : j ≠ k) :
    (removeFromAllQueues k c b i s).core j = s.core j := State.updCore_core_ne s _ h

/-! ### The register step -/

/-- The register step of COMMIT, where it succeeds: the entry's register becomes ARCHITECTED and the mapping it displaced
FREE, and nothing else differs. -/
theorem commitReg_spec {k : Nat} {e : Entry} {s s' : State} (h : commitReg k e s = .ok s') :
    RegsOnly k s s' ∧ ∀ j b p, s'.reg j b p
      = if j = k ∧ b = bankOf e.archreg.toNat ∧ e.physreg = some p then { s.reg j b p with state := .architected }
        else if j = k ∧ b = bankOf e.archreg.toNat ∧ e.physreg ≠ none ∧ e.oldPhysreg = some p then
          { s.reg j b p with state := .free }
        else s.reg j b p := by
  obtain ⟨hnone, rfl⟩ | ⟨q, old, hq, hold, halloc, harch, rfl⟩ := commitReg_ok k e s s' h
  · exact ⟨.refl k s', fun j b p => by simp [hnone]⟩
  · refine ⟨(RegsOnly.setRegState s k _ q _).trans (RegsOnly.setRegState _ k _ old _), fun j b p => ?_⟩
    have hne : q ≠ old := by
      rintro rfl
      rw [halloc] at harch
      cases harch
    simp only [State.reg_setRegState, hq, hold, Option.some.injEq, ne_eq, reduceCtorEq, not_false_eq_true, true_and]
    by_cases hj : j = k ∧ b = bankOf e.archreg.toNat
    · obtain ⟨rfl, rfl⟩ := hj
      simp only [true_and, hne.symm, if_false]
      by_cases hp : p = old
      · subst hp
        simp [hne]
      · by_cases hp' : p = q
        · subst hp'
          simp [hp]
        · simp [hp, hp', Ne.symm hp, Ne.symm hp']
    · rw [if_neg fun h => hj ⟨h.1, h.2.1⟩, if_neg fun h => hj ⟨h.1, h.2.1⟩, if_neg fun h => hj ⟨h.1, h.2.1⟩,
        if_neg fun h => hj ⟨h.1, h.2.1⟩]

/-- The register step succeeds where the entry holds no register, or its registers are ALLOC and ARCHITECTED. -/
theorem commitReg_succeeds {k : Nat} {e : Entry} {s : State}
    (h : ∀ p, e.physreg = some p → (s.reg k (bankOf e.archreg.toNat) p).state = .alloc
      ∧ ∃ old, e.oldPhysreg = some old ∧ (s.reg k (bankOf e.archreg.toNat) old).state = .architected) :
    ∃ s', commitReg k e s = .ok s' := by
  cases hp : e.physreg with
  | none => exact ⟨s, by simp only [commitReg, hp]⟩
  | some p =>
    obtain ⟨halloc, old, hold, harch⟩ := h p hp
    exact ⟨_, by simp only [commitReg, hp, hold]; exact if_pos ⟨halloc, harch⟩⟩

/-- The register step fails, before it has written anything, where a register is in another state. -/
theorem commitReg_fails {k p : Nat} {e : Entry} {s : State} (hp : e.physreg = some p)
    (h : (s.reg k (bankOf e.archreg.toNat) p).state ≠ .alloc
      ∨ ∃ old, e.oldPhysreg = some old ∧ (s.reg k (bankOf e.archreg.toNat) old).state ≠ .architected) :
    commitReg k e s = .error (.commitRegState, s) := by
  cases hold : e.oldPhysreg with
  | none => simp only [commitReg, hp, hold]
  | some old =>
    simp only [commitReg, hp, hold]
    refine if_neg fun ⟨halloc, harch⟩ => ?_
    obtain h | ⟨old', hold', h⟩ := h
    · exact h halloc
    · cases hold.symm.trans hold'
      exact h harch

/-! ### The removal of the head -/

section Retire

variable (c : Nat) (e : Entry) (s : State)

theorem retireHead_ctx_same :
    (retireHead c e s).ctx c = { s.ctx c with
      robRing := (s.ctx c).robRing.popHead
      lsqRing := if e.eaComp then (s.ctx c).lsqRing.popHead else (s.ctx c).lsqRing } := by
  cases h : e.eaComp <;> simp [retireHead, h]

theorem retireHead_ctx_ne {j : Nat} (hj : j ≠ c) : (retireHead c e s).ctx j = s.ctx j := by
  cases h : e.eaComp <;> simp [retireHead, h, State.updCtx_ctx_ne _ _ hj]

theorem retireHead_slotOf (k n : Nat) : ((retireHead c e s).core k).slotOf n = (s.core k).slotOf n := by
  cases h : e.eaComp <;> simp [retireHead, h]

theorem retireHead_iqCount (k : Nat) : ((retireHead c e s).core k).iqCount = (s.core k).iqCount := by
  cases h : e.eaComp <;> simp [retireHead, h]

theorem retireHead_core_ne {k : Nat} (hk : k ≠ (s.ctx c).core) : (retireHead c e s).core k = s.core k := by
  cases h : e.eaComp <;> simp [retireHead, h, removeFromAllQueues_core_ne _ _ _ _ hk]

theorem retireHead_reg (k : Nat) (b : Bank) (p : Nat) : (retireHead c e s).reg k b p = s.reg k b p := by
  cases h : e.eaComp <;> simp [retireHead, h]

theorem retireHead_around : SameAround s (retireHead c e s) := by
  unfold retireHead
  cases e.eaComp <;> exact ⟨rfl, rfl, rfl, rfl, rfl, rfl⟩

theorem retireHead_wq (k : Nat) (q : Queue) :
    ((retireHead c e s).core k).wq q = if k = (s.ctx c).core then
      if e.eaComp then
        dropEntry c .lsq (s.ctx c).lsqRing.head (dropEntry c .rob (s.ctx c).robRing.head ((s.core k).wq q))
      else dropEntry c .rob (s.ctx c).robRing.head ((s.core k).wq q)
      else (s.core k).wq q := by
  cases h : e.eaComp <;> by_cases hk : k = (s.ctx c).core <;> simp [retireHead, h, removeFromAllQueues_wq, hk]

end Retire

theorem Membership.isOf_eq_decide (m : Membership) (c : Nat) (b : Buf) (i : Nat) :
    m.isOf c b i = (decide (m.ctx = c) && decide (m.buf = b ∧ m.idx = i)) := by
  simp [Membership.isOf, Bool.and_assoc, Bool.decide_and]

/-- The memberships that the removal of the head leaves, as one filter. -/
theorem dropEntry_head {c i j : Nat} {ea : Bool} (l : List Membership) :
    (if ea then dropEntry c .lsq j (dropEntry c .rob i l) else dropEntry c .rob i l)
      = l.filter (fun m => !(decide (m.ctx = c) && (decide (m.buf = .rob ∧ m.idx = i)
          || decide (ea = true ∧ m.buf = .lsq ∧ m.idx = j)))) := by
  cases ea with
  | false => simp [dropEntry, Membership.isOf_eq_decide]
  | true =>
    rw [if_pos rfl, dropEntry, dropEntry, List.filter_filter]
    refine List.filter_congr fun m _ => ?_
    simp only [Membership.isOf_eq_decide, true_and, Bool.and_or_distrib_left, Bool.not_or, Bool.and_comm]

/-! ### The outcomes in their order -/

section Outcomes

variable {s : State} {c : BitVec 8}

/-- The body of COMMIT for an attached context. -/
theorem exec_commit_attached (hc : c.toNat < s.cfg.numContexts) (ha : (s.ctx c.toNat).attached = true) {r : Ran}
    (hr : (if (s.ctx c.toNat).robRing.num = 0 then .done s .empty
      else if ((s.ctx c.toNat).entry .rob (s.ctx c.toNat).robRing.head).completed then
        match partnerCheck (s.ctx c.toNat) ((s.ctx c.toNat).entry .rob (s.ctx c.toNat).robRing.head) with
        | .desync => .fatal s .lsqDesync
        | .notReady => .done s (.stall .notReady)
        | .ready => Ran.after (commitReg (s.ctx c.toNat).core ((s.ctx c.toNat).entry .rob (s.ctx c.toNat).robRing.head) s)
            fun s' => .done (retireHead c.toNat ((s.ctx c.toNat).entry .rob (s.ctx c.toNat).robRing.head) s')
              (.ok (commitWords (s.ctx c.toNat) ((s.ctx c.toNat).entry .rob (s.ctx c.toNat).robRing.head)))
      else .done s (.stall .notReady)) = r) :
    exec (.commit c) s = perform (.commit c) s r :=
  congrArg (perform (.commit c) s) ((checkCtx_pass c s _ hc).trans ((checkAttached_pass c s _ ha).trans hr))

end Outcomes

theorem partnerCheck_ready {x : Context} {e : Entry}
    (h : e.eaComp = true → x.lsqRing.num ≠ 0 ∧ (x.entry .lsq x.lsqRing.head).seq = e.seq
      ∧ (x.entry .lsq x.lsqRing.head).completed = true) : partnerCheck x e = .ready := by
  cases he : e.eaComp with
  | false => simp [partnerCheck, he]
  | true =>
    obtain ⟨hnum, hseq, hcompleted⟩ := h he
    simp [partnerCheck, he, hnum, hseq, hcompleted]

theorem partnerCheck_desync {x : Context} {e : Entry}
    (h : ¬(e.eaComp = true → x.lsqRing.num ≠ 0 ∧ (x.entry .lsq x.lsqRing.head).seq = e.seq)) :
    partnerCheck x e = .desync := by
  obtain ⟨he, hno⟩ := Classical.not_imp.mp h
  simp only [partnerCheck, he, if_true]
  by_cases hnum : x.lsqRing.num = 0
  · rw [if_pos hnum]
  · rw [if_neg hnum, if_pos fun hseq => hno ⟨hnum, hseq⟩]

theorem partnerCheck_notReady {x : Context} {e : Entry} (he : e.eaComp = true) (hnum : x.lsqRing.num ≠ 0)
    (hseq : (x.entry .lsq x.lsqRing.head).seq = e.seq) (hcompleted : (x.entry .lsq x.lsqRing.head).completed = false) :
    partnerCheck x e = .notReady := by
  simp [partnerCheck, he, hnum, hseq, hcompleted]

/-- COMMIT where it retires the head. -/
theorem exec_commit_retires {s s' : State} {c : BitVec 8} (hl : s.latch.set = false) (hc : c.toNat < s.cfg.numContexts)
    (ha : (s.ctx c.toNat).attached = true) (hnum : (s.ctx c.toNat).robRing.num ≠ 0)
    (hcompleted : ((s.ctx c.toNat).entry .rob (s.ctx c.toNat).robRing.head).completed = true)
    (hpartner : partnerCheck (s.ctx c.toNat) ((s.ctx c.toNat).entry .rob (s.ctx c.toNat).robRing.head) = .ready)
    (hreg : commitReg (s.ctx c.toNat).core ((s.ctx c.toNat).entry .rob (s.ctx c.toNat).robRing.head) s = .ok s') :
    exec (.commit c) s
      = .next ((retireHead c.toNat ((s.ctx c.toNat).entry .rob (s.ctx c.toNat).robRing.head) s').answer
          (.ok (commitWords (s.ctx c.toNat) ((s.ctx c.toNat).entry .rob (s.ctx c.toNat).robRing.head)))) := by
  refine (exec_commit_attached hc ha ?_).trans (perform_done _ s _ _ hl)
  rw [if_neg hnum, if_pos hcompleted, hpartner, hreg]
  rfl

/-- Settles O39: the register step and the removal, each by its readings. -/
theorem commitRetiresTheHead : Obligations.CommitRetiresTheHead := by
  intro s c hl hc ha x e l bank hnum hcompleted hpartner hregs
  obtain ⟨s', hreg⟩ := commitReg_succeeds hregs
  obtain ⟨honly, hreg'⟩ := commitReg_spec hreg
  have hx : s'.ctx c.toNat = x := honly.ctx c.toNat
  have hctx := retireHead_ctx_same c.toNat e s'
  rw [hx] at hctx
  refine ⟨_, exec_commit_retires hl hc ha hnum hcompleted (partnerCheck_ready hpartner) hreg, ?_, ?_, ?_, ?_, fun k b p => ?_,
    fun k q => ?_, fun k => ?_, fun k n => ?_, fun j hj => ?_, ?_, ?_⟩
  · cases hp : e.physreg <;> cases hea : e.eaComp <;> simp [commitWords, boolWord, x, e, hp, hea]
  · rw [State.answer_ctx, hctx]
    rfl
  · rw [State.answer_ctx, hctx]
    rfl
  · rw [State.answer_ctx, hctx]
  · exact (retireHead_reg c.toNat e s' k b p).trans (hreg' k b p)
  · rw [State.answer_core, retireHead_wq, hx, honly.wq, dropEntry_head]
  · rw [State.answer_core, retireHead_iqCount, honly.iqCount]
  · rw [State.answer_core, retireHead_slotOf, honly.slotOf]
  · rw [State.answer_ctx, retireHead_ctx_ne _ _ _ hj, honly.ctx]
  · exact (retireHead_nextSeq c.toNat e s').trans honly.nextSeq
  · exact SameAround.trans honly.around (retireHead_around c.toNat e s')

end Sys2Proof.Machine

/-! PROOFS. What a command can do: every way a performed command ends, with the conditions under which it does, said once for
all commands. -/

namespace Sys2Proof.Machine

open Sys2Proof.Safety Sys2Proof.Config

/-! ### The ways a command ends -/

/-- A response that reports that the command did nothing: STALL, NONE, STALE or ILLEGAL, without data. -/
structure Declines (r : Response) : Prop where
  status : r.status = .stall ∨ r.status = .none ∨ r.status = .stale ∨ r.status = .illegal
  data : r.data = []
  detail : r.status = .none ∨ r.status = .stale → r.detail = 0

theorem declines_illegal (r : IllegalReason) : Declines (.illegal r) :=
  ⟨.inr (.inr (.inr rfl)), rfl, by rintro (h | h) <;> cases h⟩

theorem declines_stall (r : StallReason) : Declines (.stall r) := ⟨.inl rfl, rfl, by rintro (h | h) <;> cases h⟩

theorem declines_empty : Declines .empty := ⟨.inr (.inl rfl), rfl, fun _ => rfl⟩

theorem declines_stale : Declines .stale := ⟨.inr (.inr (.inl rfl)), rfl, fun _ => rfl⟩

/-- Command `i`, performed at `s` whose latch is clear, ends in the response `r` and the state `s'` but for the response. -/
inductive Performed (s : State) : Instr → State → Response → Prop
  | declined {i : Instr} {r : Response} (h : Declines r) : Performed s i s r
  | read {i : Instr} (data : List Word) : Performed s i s (.ok data)
  | deadRead (c : BitVec 8) (b : Buf) (slot : Word) (data : List Word) : Performed s (.entryRead c b slot) s.afterDraw (.ok data)
  | dispatched {c : BitVec 8} {p : DispatchWords} (h : Dispatchable s c p) :
      Performed s (.dispatch c p) (dispatchWrite c.toNat (classify s.cfg p.opcode) p s)
        (.ok (dispatchWords c.toNat (classify s.cfg p.opcode) p s))
  | markedQueued {c : BitVec 8} {b : Buf} {slot gen : Word} {e : Entry} (hc : c.toNat < s.cfg.numContexts)
      (hlive : s.live c.toNat b slot.toNat gen.toNat = true) (he : ((s.ctx c.toNat).entry b slot.toNat).toQueued = some e) :
      Performed s (.markQueued c b slot gen) (s.setEntry c.toNat b slot.toNat e) (.ok [])
  | issued {c : BitVec 8} {b : Buf} {slot gen : Word} {e : Entry} (hc : c.toNat < s.cfg.numContexts)
      (hlive : s.live c.toNat b slot.toNat gen.toNat = true) (he : ((s.ctx c.toNat).entry b slot.toNat).toIssued = some e) :
      Performed s (.issue c b slot gen) (releaseIqSlot c.toNat b slot.toNat (s.setEntry c.toNat b slot.toNat e)) (.ok [])
  | completed {c : BitVec 8} {b : Buf} {slot gen : Word} {e : Entry} (hc : c.toNat < s.cfg.numContexts)
      (hlive : s.live c.toNat b slot.toNat gen.toNat = true) (he : ((s.ctx c.toNat).entry b slot.toNat).toCompleted = some e) :
      Performed s (.complete c b slot gen) (s.setEntry c.toNat b slot.toNat e) (.ok [])
  | committed {c : BitVec 8} {s1 : State} (hc : c.toNat < s.cfg.numContexts) (ha : (s.ctx c.toNat).attached = true)
      (hnum : (s.ctx c.toNat).robRing.num ≠ 0)
      (hcompleted : ((s.ctx c.toNat).entry .rob (s.ctx c.toNat).robRing.head).completed = true)
      (hpartner : partnerCheck (s.ctx c.toNat) ((s.ctx c.toNat).entry .rob (s.ctx c.toNat).robRing.head) = .ready)
      (hreg : commitReg (s.ctx c.toNat).core ((s.ctx c.toNat).entry .rob (s.ctx c.toNat).robRing.head) s = .ok s1) :
      Performed s (.commit c) (retireHead c.toNat ((s.ctx c.toNat).entry .rob (s.ctx c.toNat).robRing.head) s1)
        (.ok (commitWords (s.ctx c.toNat) ((s.ctx c.toNat).entry .rob (s.ctx c.toNat).robRing.head)))
  | rolledBack {c : BitVec 8} {m : Bool} {slot gen : Word} {s1 : State} (hc : c.toNat < s.cfg.numContexts)
      (hlive : s.live c.toNat .rob slot.toNat gen.toNat = true)
      (hsquash : squashMany c.toNat (youngerCount (s.ctx c.toNat) slot.toNat) s = .ok s1) :
      Performed s (.rollbackTo c m slot gen)
        (afterRollback c.toNat slot.toNat m (youngerCount (s.ctx c.toNat) slot.toNat) s1)
        (.ok [natWord (youngerCount (s.ctx c.toNat) slot.toNat),
          ((afterRollback c.toNat slot.toNat m (youngerCount (s.ctx c.toNat) slot.toNat) s1).ctx c.toNat).fetchPc])
  | flushed {c : BitVec 8} {s1 : State} (hc : c.toNat < s.cfg.numContexts) (ha : (s.ctx c.toNat).attached = true)
      (hflush : flushBody c.toNat s = .ok s1) :
      Performed s (.flushContext c) s1 (.ok [natWord (s.ctx c.toNat).robRing.num, flushPc (s.ctx c.toNat)])
  | added {c k : BitVec 8} {s1 : State} (hc : c.toNat < s.cfg.numContexts) (hk : k.toNat < s.cfg.numCores)
      (ha : (s.ctx c.toNat).attached = false) (hadmit : admitTo c.toNat k.toNat s = .ok s1) :
      Performed s (.addContext c k) s1 (.ok [natWord (s1.ctx c.toNat).slot])
  | addRejected (c k : BitVec 8) (r : RejectReason) : Performed s (.addContext c k) s (.reject r [])
  | ejected {c : BitVec 8} {s1 : State} (hc : c.toNat < s.cfg.numContexts) (ha : (s.ctx c.toNat).attached = true)
      (hevict : evict c.toNat s = .ok s1) :
      Performed s (.ejectContext c) s1 (.ok [natWord (s.ctx c.toNat).core, natWord (s.ctx c.toNat).slot])
  | transferred {c k : BitVec 8} {s1 s2 s3 : State} (hc : c.toNat < s.cfg.numContexts) (hk : k.toNat < s.cfg.numCores)
      (ha : (s.ctx c.toNat).attached = true) (hflush : flushBody c.toNat s = .ok s1) (hevict : evict c.toNat s1 = .ok s2)
      (hadmit : admitTo c.toNat k.toNat s2 = .ok s3) :
      Performed s (.transferContext c k) s3
        (.ok [natWord (s.ctx c.toNat).robRing.num, natWord (s3.ctx c.toNat).slot])
  | transferRejected {c k : BitVec 8} {s1 s2 : State} {r : RejectReason} (hc : c.toNat < s.cfg.numContexts)
      (hk : k.toNat < s.cfg.numCores) (ha : (s.ctx c.toNat).attached = true) (hflush : flushBody c.toNat s = .ok s1)
      (hevict : evict c.toNat s1 = .ok s2) (hadmit : admitTo c.toNat k.toNat s2 = .error r) :
      Performed s (.transferContext c k) s2 (.reject r [natWord (s.ctx c.toNat).robRing.num, minusOne])
  | setReady {k : BitVec 8} {q : BitVec 2} {b : Bank} {index ready spec : Word} (hk : k.toNat < s.cfg.numCores)
      (halloc : (s.reg k.toNat b index.toNat).state = .alloc) :
      Performed s (.prfSetReady k q index ready spec) (s.setReg k.toNat b index.toNat
        { s.reg k.toNat b index.toNat with readyCycle := ready, specReadyCycle := spec }) (.ok [])
  | inserted {k c : BitVec 8} {q : Queue} {b : Buf} {slot gen key : Word} (hk : k.toNat < s.cfg.numCores)
      (hc : c.toNat < s.cfg.numContexts)
      (hlive : s.live c.toNat b slot.toNat gen.toNat = true ∧ (s.ctx c.toNat).core = k.toNat)
      (hno : ¬ ((s.core k.toNat).wq q).any (fun m => m.isOf c.toNat b slot.toNat) = true) :
      Performed s (.wqInsert k c q b slot gen key)
        (s.setWq k.toNat q ((s.core k.toNat).wq q ++ [⟨c.toNat, b, slot.toNat, gen.toNat,
          queueKey q ((s.ctx c.toNat).entry b slot.toNat) key⟩])) (.ok [])
  | popped {k : BitVec 8} {q : Queue} {m : Membership} (hk : k.toNat < s.cfg.numCores)
      (hm : m ∈ popCandidates k.toNat q s) :
      Performed s (.wqPop k q) (s.afterDraw.setWq k.toNat q (without m ((s.core k.toNat).wq q))) (.ok m.words)
  | removed {k c : BitVec 8} {q : Queue} {b : Buf} {slot gen : Word} (m : Membership) (hk : k.toNat < s.cfg.numCores) :
      Performed s (.wqRemove k c q b slot gen) (s.setWq k.toNat q (without m ((s.core k.toNat).wq q))) (.ok [1])
  | pushed {c : BitVec 8} {pc payload : Word} (hc : c.toNat < s.cfg.numContexts) (ha : (s.ctx c.toNat).attached = true)
      (hroom : (s.ctx c.toNat).ifqRing.num ≠ (s.ctx c.toNat).ifqRing.cap) :
      Performed s (.ifqPush c pc payload)
        (s.updCtx c.toNat (fun x => { x with
          ifq := Table.put x.ifq (s.ctx c.toNat).ifqRing.tail ⟨pc, payload⟩
          ifqRing := (s.ctx c.toNat).ifqRing.pushTail }))
        (.ok [natWord (s.ctx c.toNat).ifqRing.tail])
  | poppedIfq {c : BitVec 8} (data : List Word) (hc : c.toNat < s.cfg.numContexts) (ha : (s.ctx c.toNat).attached = true)
      (hnum : (s.ctx c.toNat).ifqRing.num ≠ 0) :
      Performed s (.ifqPop c) (s.updCtx c.toNat (fun x => { x with ifqRing := (s.ctx c.toNat).ifqRing.popHead })) (.ok data)
  | wroteWreg {c : BitVec 8} {a v : Word} (hc : c.toNat < s.cfg.numContexts) :
      Performed s (.wregWrite c a v) (s.updCtx c.toNat (fun x => { x with wreg := Table.put x.wreg a.toNat v })) (.ok [])
  | setPc {c : BitVec 8} {pc : Word} (hc : c.toNat < s.cfg.numContexts) :
      Performed s (.setFetchPc c pc) (s.updCtx c.toNat (fun x => { x with fetchPc := pc })) (.ok [])

/-- Command `i`, performed at `s` whose latch is clear, raises the defect `d` at the defect point `s'`. -/
inductive Raised (s : State) : Instr → State → Defect → Prop
  | notAttached {i : Instr} {c : BitVec 8} (hid : IdsExist i s) (huses : usesCtx i = some c) (hneeds : needsAttached i = true)
      (ha : (s.ctx c.toNat).attached = false) : Raised s i s .notAttached
  | alreadyAttached {c k : BitVec 8} (hid : IdsExist (.addContext c k) s) (ha : (s.ctx c.toNat).attached = true) :
      Raised s (.addContext c k) s .alreadyAttached
  | atOnce {i : Instr} {d : Defect} (hd : d ≠ .notAttached ∧ d ≠ .alreadyAttached) (hi : ∀ c k, i ≠ .transferContext c k) :
      Raised s i s d
  | rollbackFailed {c : BitVec 8} {m : Bool} {slot gen : Word} {s1 : State} {d : Defect} (hc : c.toNat < s.cfg.numContexts)
      (hlive : s.live c.toNat .rob slot.toNat gen.toNat = true)
      (hsquash : squashMany c.toNat (youngerCount (s.ctx c.toNat) slot.toNat) s = .error (d, s1)) :
      Raised s (.rollbackTo c m slot gen) s1 d
  | flushFailed {c : BitVec 8} {s1 : State} {d : Defect} (hc : c.toNat < s.cfg.numContexts)
      (ha : (s.ctx c.toNat).attached = true) (hflush : flushBody c.toNat s = .error (d, s1)) :
      Raised s (.flushContext c) s1 d
  | transferFlushFailed {c k : BitVec 8} {s1 : State} {d : Defect} (hc : c.toNat < s.cfg.numContexts)
      (ha : (s.ctx c.toNat).attached = true) (hflush : flushBody c.toNat s = .error (d, s1)) :
      Raised s (.transferContext c k) s1 d
  | transferEvictFailed {c k : BitVec 8} {s1 : State} {d : Defect} (hc : c.toNat < s.cfg.numContexts)
      (ha : (s.ctx c.toNat).attached = true) (hflush : flushBody c.toNat s = .ok s1)
      (hevict : evictDefect c.toNat s1 = some d) : Raised s (.transferContext c k) s1 d

/-- The body ends in one of the ways in which command `i`, performed at `s`, can end. -/
def Ran.Accounted (i : Instr) (s : State) : Ran → Prop
  | .done s' r => Performed s i s' r
  | .fatal s' d => Raised s i s' d

section Accounted

variable {i : Instr} {s : State} {k : Ran}

theorem Ran.Accounted.ite {p : Prop} [Decidable p] {a b : Ran} (ha : p → a.Accounted i s) (hb : ¬p → b.Accounted i s) :
    (if p then a else b).Accounted i s := by
  split
  · exact ha ‹_›
  · exact hb ‹_›

theorem Ran.Accounted.after {r : Except (Defect × State) State} {k : State → Ran}
    (hok : ∀ s1, r = .ok s1 → (k s1).Accounted i s) (herror : ∀ d s1, r = .error (d, s1) → Raised s i s1 d) :
    (Ran.after r k).Accounted i s := by
  cases r with
  | ok s1 => exact hok s1 rfl
  | error e => exact herror e.1 e.2 rfl

theorem checkCtx_accounted {c : BitVec 8} (hk : c.toNat < s.cfg.numContexts → k.Accounted i s) :
    (checkCtx c s k).Accounted i s := .ite hk fun _ => .declined (declines_illegal _)

theorem checkCore_accounted {c : BitVec 8} (hk : c.toNat < s.cfg.numCores → k.Accounted i s) :
    (checkCore c s k).Accounted i s := .ite hk fun _ => .declined (declines_illegal _)

theorem checkBank_accounted {q : BitVec 2} {k : Bank → Ran} (hk : ∀ b, (k b).Accounted i s) :
    (checkBank q s k).Accounted i s := .ite (fun _ => hk _) fun _ => .declined (declines_illegal _)

theorem checkAttached_accounted {c : BitVec 8} (hid : IdsExist i s) (huses : usesCtx i = some c)
    (hneeds : needsAttached i = true) (hk : (s.ctx c.toNat).attached = true → k.Accounted i s) :
    (checkAttached c s k).Accounted i s :=
  .ite hk fun ha => .notAttached hid huses hneeds (eq_false_of_ne_true ha)

theorem checkSlot_accounted {c : BitVec 8} {b : Buf} {slot : Word} (hk : k.Accounted i s) :
    (checkSlot c b slot s k).Accounted i s := .ite (fun _ => hk) fun _ => .declined (declines_illegal _)

theorem checkQueueSlot_accounted {slot : Word} (hk : k.Accounted i s) : (checkQueueSlot slot s k).Accounted i s :=
  .ite (fun _ => hk) fun _ => .declined (declines_illegal _)

theorem checkReg_accounted {p : Word} (hk : k.Accounted i s) : (checkReg p s k).Accounted i s :=
  .ite (fun _ => hk) fun _ => .declined (declines_illegal _)

theorem checkArchreg_accounted {a : Word} (hk : k.Accounted i s) : (checkArchreg a s k).Accounted i s :=
  .ite (fun _ => hk) fun _ => .declined (declines_illegal _)

theorem checkLiveOn_accounted {core c : BitVec 8} {b : Buf} {slot gen : Word}
    (hk : s.live c.toNat b slot.toNat gen.toNat = true ∧ (s.ctx c.toNat).core = core.toNat → k.Accounted i s) :
    (checkLiveOn core c b slot gen s k).Accounted i s := .ite hk fun _ => .declined declines_stale

theorem idsExist_of_ctx {c : BitVec 8} (huses : usesCtx i = some c) (hcore : usesCore i = none)
    (hc : c.toNat < s.cfg.numContexts) : IdsExist i s := by
  constructor
  · intro c' hc'
    cases huses.symm.trans hc'
    exact hc
  · intro k hk
    cases hcore.symm.trans hk

theorem idsExist_of_ctx_core {c core : BitVec 8} (huses : usesCtx i = some c) (hcore : usesCore i = some core)
    (hc : c.toNat < s.cfg.numContexts) (hk : core.toNat < s.cfg.numCores) : IdsExist i s := by
  constructor
  · intro c' hc'
    cases huses.symm.trans hc'
    exact hc
  · intro k' hk'
    cases hcore.symm.trans hk'
    exact hk

/-- The checks of a command that names an attached context and no core. -/
theorem checkCtx_checkAttached_accounted {c : BitVec 8} (huses : usesCtx i = some c) (hcore : usesCore i = none)
    (hneeds : needsAttached i = true)
    (hk : c.toNat < s.cfg.numContexts → (s.ctx c.toNat).attached = true → k.Accounted i s) :
    (checkCtx c s (checkAttached c s k)).Accounted i s :=
  checkCtx_accounted fun hc => checkAttached_accounted (idsExist_of_ctx huses hcore hc) huses hneeds (hk hc)

theorem checkHandle_accounted {c : BitVec 8} {b : Buf} {slot gen : Word} (huses : usesCtx i = some c)
    (hcore : usesCore i = none) (hneeds : needsAttached i = true)
    (hk : c.toNat < s.cfg.numContexts → s.live c.toNat b slot.toNat gen.toNat = true → k.Accounted i s) :
    (checkHandle c b slot gen s k).Accounted i s :=
  checkCtx_checkAttached_accounted huses hcore hneeds fun hc _ =>
    checkSlot_accounted (.ite (hk hc) fun _ => .declined declines_stale)

theorem statusBody_accounted {c : BitVec 8} {b : Buf} {slot gen : Word} {f : Entry → Option Entry} {g : State → State}
    (huses : usesCtx i = some c) (hcore : usesCore i = none) (hneeds : needsAttached i = true)
    (hk : ∀ e, c.toNat < s.cfg.numContexts → s.live c.toNat b slot.toNat gen.toNat = true →
      f ((s.ctx c.toNat).entry b slot.toNat) = some e → Performed s i (g (s.setEntry c.toNat b slot.toNat e)) (.ok [])) :
    (statusBody c b slot gen s f g).Accounted i s := by
  refine checkHandle_accounted huses hcore hneeds fun hc hlive => ?_
  split
  · exact .atOnce (by decide) fun c' k' h => by rw [h] at hcore; cases hcore
  · exact hk _ hc hlive ‹_›

end Accounted

/-! ### DISPATCH finds every resource or declines -/

theorem dispatchStall_none {c : Nat} {kl : OpClass} {a : Nat} {s : State} (h : dispatchStall c kl a s = none) :
    (s.ctx c).robRing.num ≠ (s.ctx c).robRing.cap ∧ ¬(isMem kl = true ∧ (s.ctx c).lsqRing.num = (s.ctx c).lsqRing.cap)
      ∧ (s.core (s.ctx c).core).iqCount ≠ iqCapOf s.cfg (s.ctx c).core
      ∧ ¬(kl.dest ≠ .none ∧ s.findFree (s.ctx c).core (bankOf a) = none) := by
  unfold dispatchStall at h
  dsimp only at h
  split at h
  · cases h
  · split at h
    · cases h
    · split at h
      · cases h
      · split at h
        · cases h
        · exact ⟨‹_›, ‹_›, ‹_›, ‹_›⟩

theorem dispatchable_of_checks {s : State} {c : BitVec 8} {p : DispatchWords} (hl : s.latch.set = false)
    (hc : c.toNat < s.cfg.numContexts) (ha : (s.ctx c.toNat).attached = true)
    (hfits : ¬ (!archregFits (classify s.cfg p.opcode).dest p.archreg) = true)
    (hsize : ¬ (isMem (classify s.cfg p.opcode) && !sizeLegal p.memSize) = true)
    (hstall : dispatchStall c.toNat (classify s.cfg p.opcode) p.archreg.toNat s = none) : Dispatchable s c p := by
  obtain ⟨hrob, hlsq, hiq, hreg⟩ := dispatchStall_none hstall
  refine ⟨hl, hc, ha, by simpa using hfits, fun hmem => ?_, hrob, fun hmem hfull => hlsq ⟨hmem, hfull⟩, hiq, fun hdest => ?_⟩
  · simpa [hmem] using hsize
  · exact Option.isSome_iff_ne_none.mpr fun hnone => hreg ⟨hdest, hnone⟩

theorem dispatchBody_accounted {s : State} {c : BitVec 8} {p : DispatchWords} (hl : s.latch.set = false) :
    (dispatchBody c p s).Accounted (.dispatch c p) s := by
  refine checkCtx_checkAttached_accounted rfl rfl rfl fun hc ha => .ite (fun _ => .declined (declines_illegal _)) fun hfits =>
    .ite (fun _ => .declined (declines_illegal _)) fun hsize => ?_
  split
  · exact .declined (declines_stall _)
  · exact .dispatched (dispatchable_of_checks hl hc ha hfits hsize ‹_›)

/-! ### Every command -/

theorem evictDefect_ne {c : Nat} {s : State} {d : Defect} (h : evictDefect c s = some d) :
    d = .ejectNotQuiescent ∨ d = .lsqDesync ∨ d = .ejectRegState ∨ d = .ejectPendingTimestamp := by
  unfold evictDefect at h
  dsimp only at h
  split at h
  · exact .inl (Option.some.inj h).symm
  · split at h
    · exact .inr (.inl (Option.some.inj h).symm)
    · obtain ⟨a, _, ha⟩ := List.exists_of_findSome?_eq_some h
      unfold returnDefect at ha
      dsimp only at ha
      split at ha
      · exact .inr (.inr (.inl (Option.some.inj ha).symm))
      · split at ha
        · exact .inr (.inr (.inr (Option.some.inj ha).symm))
        · cases ha

theorem evictDefect_ne_attachment {c : Nat} {s : State} {d : Defect} (h : evictDefect c s = some d) :
    d ≠ .notAttached ∧ d ≠ .alreadyAttached := by
  obtain rfl | rfl | rfl | rfl := evictDefect_ne h <;> decide

theorem evict_error {c : Nat} {s s1 : State} {d : Defect} (h : evict c s = .error (d, s1)) :
    s1 = s ∧ evictDefect c s = some d := by
  unfold evict at h
  split at h
  · cases h
    exact ⟨rfl, ‹_›⟩
  · cases h

theorem commitReg_error {k : Nat} {e : Entry} {s s1 : State} {d : Defect} (h : commitReg k e s = .error (d, s1)) :
    s1 = s ∧ d = .commitRegState := by
  unfold commitReg at h
  split at h
  · cases h
  · dsimp only at h
    split at h
    · cases h
      exact ⟨rfl, rfl⟩
    · split at h
      · cases h
      · cases h
        exact ⟨rfl, rfl⟩

/-- The body of every command is accounted for: each arm goes through its checks in the order of 60_exceptions.md R368. -/
theorem exec_accounted (i : Instr) {s : State} (hl : s.latch.set = false) :
    ∃ b, exec i s = perform i s b ∧ b.Accounted i s := by
  cases i with
  | nop => exact ⟨.done s (.ok []), rfl, .read []⟩
  | dispatch c p => exact ⟨_, rfl, dispatchBody_accounted hl⟩
  | markQueued c b slot gen => exact ⟨_, rfl, statusBody_accounted rfl rfl rfl fun e => .markedQueued⟩
  | issue c b slot gen => exact ⟨_, rfl, statusBody_accounted rfl rfl rfl fun e => .issued⟩
  | complete c b slot gen => exact ⟨_, rfl, statusBody_accounted rfl rfl rfl fun e => .completed⟩
  | commit c =>
    refine ⟨_, rfl, checkCtx_checkAttached_accounted rfl rfl rfl fun hc ha => .ite (fun _ => .declined declines_empty)
      fun hnum => .ite (fun hcompleted => ?_) fun _ => .declined (declines_stall _)⟩
    split
    · exact .atOnce (by decide) nofun
    · exact .declined (declines_stall _)
    · refine .after (fun s1 => .committed hc ha hnum hcompleted ‹_›) fun d s1 hreg => ?_
      obtain ⟨rfl, rfl⟩ := commitReg_error hreg
      exact .atOnce (by decide) nofun
  | rollbackTo c m slot gen =>
    exact ⟨_, rfl, checkHandle_accounted rfl rfl rfl fun hc hlive => .after (fun s1 => .rolledBack hc hlive)
      fun d s1 => .rollbackFailed hc hlive⟩
  | flushContext c =>
    exact ⟨_, rfl, checkCtx_checkAttached_accounted rfl rfl rfl fun hc ha => .after (fun s1 => .flushed hc ha)
      fun d s1 => .flushFailed hc ha⟩
  | addContext c k =>
    refine ⟨_, rfl, checkCtx_accounted fun hc => checkCore_accounted fun hk => .ite (fun ha =>
      .alreadyAttached (idsExist_of_ctx_core rfl rfl hc hk) ha) fun ha => ?_⟩
    split
    · exact .addRejected c k _
    · exact .added hc hk (eq_false_of_ne_true ha) ‹_›
  | ejectContext c =>
    refine ⟨_, rfl, checkCtx_checkAttached_accounted rfl rfl rfl fun hc ha => .after (fun s1 => .ejected hc ha)
      fun d s1 hevict => ?_⟩
    obtain ⟨rfl, hd⟩ := evict_error hevict
    exact .atOnce (evictDefect_ne_attachment hd) nofun
  | transferContext c k =>
    refine ⟨_, rfl, checkCtx_accounted fun hc => checkCore_accounted fun hk =>
      checkAttached_accounted (idsExist_of_ctx_core rfl rfl hc hk) rfl rfl fun ha =>
        .after (fun s1 hflush => .after (fun s2 hevict => ?_) fun d s2 hevict => ?_) fun d s1 => .transferFlushFailed hc ha⟩
    · split
      · exact .transferRejected hc hk ha hflush hevict ‹_›
      · exact .transferred hc hk ha hflush hevict ‹_›
    · obtain ⟨rfl, hd⟩ := evict_error hevict
      exact .transferEvictFailed hc ha hflush hd
  | findFreePhysreg k q =>
    refine ⟨_, rfl, checkCore_accounted fun _ => checkBank_accounted fun b => ?_⟩
    split
    · exact .declined declines_empty
    · exact .read _
  | prfSetReady k q index ready spec =>
    exact ⟨_, rfl, checkCore_accounted fun hk => checkBank_accounted fun b => checkReg_accounted
      (.ite (fun halloc => .setReady hk halloc) fun _ => .atOnce (by decide) nofun)⟩
  | prfRead k q index =>
    exact ⟨_, rfl, checkCore_accounted fun _ => checkBank_accounted fun b => checkReg_accounted (.read _)⟩
  | renameRead c a =>
    exact ⟨_, rfl, checkCtx_checkAttached_accounted rfl rfl rfl fun _ _ => checkArchreg_accounted (.read _)⟩
  | wqInsert k c q b slot gen key =>
    exact ⟨_, rfl, checkCore_accounted fun hk => checkCtx_accounted fun hc => checkQueueSlot_accounted
      (checkLiveOn_accounted fun hlive => .ite (fun _ => .atOnce (by decide) nofun) fun hno => .inserted hk hc hlive hno)⟩
  | wqPop k q =>
    refine ⟨_, rfl, checkCore_accounted fun hk => ?_⟩
    split
    · exact .declined declines_empty
    · exact .popped hk (popChoice_mem ‹_›)
  | wqRemove k c q b slot gen =>
    refine ⟨_, rfl, checkCore_accounted fun hk => checkCtx_accounted fun hc => checkQueueSlot_accounted
      (checkLiveOn_accounted fun hlive => ?_)⟩
    dsimp only
    split
    · exact .read _
    · exact .removed _ hk
  | ifqPush c pc payload =>
    exact ⟨_, rfl, checkCtx_checkAttached_accounted rfl rfl rfl fun hc ha => .ite (fun _ => .declined (declines_stall _))
      fun hroom => .pushed hc ha hroom⟩
  | ifqPop c =>
    exact ⟨_, rfl, checkCtx_checkAttached_accounted rfl rfl rfl fun hc ha => .ite (fun _ => .declined declines_empty)
      fun hnum => .poppedIfq _ hc ha hnum⟩
  | wregRead c a => exact ⟨_, rfl, checkCtx_accounted fun _ => checkArchreg_accounted (.read _)⟩
  | wregWrite c a v => exact ⟨_, rfl, checkCtx_accounted fun hc => checkArchreg_accounted (.wroteWreg hc)⟩
  | setFetchPc c pc => exact ⟨_, rfl, checkCtx_accounted fun hc => .setPc hc⟩
  | entryRead c b slot =>
    exact ⟨_, rfl, checkCtx_checkAttached_accounted rfl rfl rfl fun _ _ => checkSlot_accounted
      (.ite (fun _ => .read _) fun _ => .deadRead c b slot _)⟩
  | ctxStatus c => exact ⟨_, rfl, checkCtx_accounted fun _ => .read _⟩
  | coreStatus k => exact ⟨_, rfl, checkCore_accounted fun _ => .read _⟩
  | fatalStatus => exact ⟨.done s (.ok s.latch.words), (perform_done _ s s _ hl).symm, .read _⟩

/-- A command performed while the latch is clear answers as `Performed` says, or raises a defect as `Raised` says. -/
theorem exec_cases {i : Instr} {s t : State} (hl : s.latch.set = false) (h : exec i s = .next t) :
    (∃ s' r, Performed s i s' r ∧ t = s'.answer r) ∨ ∃ s' d, Raised s i s' d ∧ t = s'.raiseFatal d i.header := by
  obtain ⟨b, hb, hacc⟩ := exec_accounted i hl
  rw [hb] at h
  obtain ⟨hset, _⟩ | ⟨_, s', r, rfl, rfl⟩ | ⟨_, s', d, rfl, rfl⟩ := perform_cases i s b t h
  · rw [hl] at hset
    cases hset
  · exact .inl ⟨s', r, hacc, rfl⟩
  · exact .inr ⟨s', d, hacc, rfl⟩

/-- A command that leaves the latch clear answers as `Performed` says. -/
theorem exec_performed {i : Instr} {s t : State} (h : exec i s = .next t) (hl : t.latch.set = false) :
    ∃ s' r, Performed s i s' r ∧ t = s'.answer r := by
  have hs : s.latch.set = false := by
    by_contra hset
    rw [exec_keeps_latch_of_latched (eq_true_of_ne_false hset) h] at hl
    exact hset hl
  refine (exec_cases hs h).resolve_right ?_
  rintro ⟨s', d, _, rfl⟩
  rw [State.raiseFatal_latch] at hl
  cases hl

end Sys2Proof.Machine

/-! PROOFS. Admission (44_context.md R290, R291): the registers a lease takes, and ADD_CONTEXT. -/

namespace Sys2Proof.Machine

open Sys2Proof.Safety

/-! ### The lowest FREE registers -/

theorem State.findFree_eq_head? (s : State) (k : Nat) (b : Bank) : s.findFree k b = (freeList s k b).head? :=
  (List.head?_filter ..).symm

theorem freeList_nodup (s : State) (k : Nat) (b : Bank) : (freeList s k b).Nodup := List.nodup_range.filter _

theorem mem_freeList {s : State} {k : Nat} {b : Bank} {p : Nat} :
    p ∈ freeList s k b ↔ p < s.cfg.prfBankSize ∧ (s.reg k b p).state = .free := by
  simp [freeList, State.isFree]

theorem freeList_congr {s t : State} {k : Nat} {b : Bank} (hcfg : t.cfg = s.cfg)
    (hreg : ∀ p, (t.reg k b p).state = (s.reg k b p).state) : freeList t k b = freeList s k b := by
  simp only [freeList, State.isFree, hcfg, hreg]

/-- The FREE registers once the lowest of them has been taken. -/
theorem freeList_of_taken {s t : State} {k p : Nat} {b : Bank} {l : List Nat} (hl : freeList s k b = p :: l)
    (hcfg : t.cfg = s.cfg) (htaken : (t.reg k b p).state ≠ .free) (hreg : ∀ q, q ≠ p → t.reg k b q = s.reg k b q) :
    freeList t k b = l := by
  have hnodup := freeList_nodup s k b
  rw [hl, List.nodup_cons] at hnodup
  calc freeList t k b
      = (freeList s k b).filter (fun q => decide (q ≠ p)) := by
        rw [freeList, freeList, hcfg, List.filter_filter]
        refine List.filter_congr fun q _ => ?_
        by_cases hq : q = p
        · subst hq
          simp [State.isFree, htaken]
        · simp [State.isFree, hreg q hq, hq]
    _ = l := by
        rw [hl, List.filter_cons_of_neg (by simp), List.filter_eq_self]
        intro q hq
        simpa using fun h : q = p => hnodup.1 (h ▸ hq)

/-! ### What a lease leaves alone -/

/-- Nothing but the rename table of context `c` and registers of core `k` differs. -/
structure LeaseFrame (c k : Nat) (s t : State) : Prop where
  ctx_ne : SameCtxsBut c s t
  ctx : { t.ctx c with rename := [] } = { s.ctx c with rename := [] }
  core_ne : SameCoresBut k s t
  wq : ∀ j q, (t.core j).wq q = (s.core j).wq q
  slotOf : ∀ j n, (t.core j).slotOf n = (s.core j).slotOf n
  iqCount : ∀ j, (t.core j).iqCount = (s.core j).iqCount
  nextSeq : t.eng.nextSeq = s.eng.nextSeq
  around : SameAround s t

theorem LeaseFrame.refl (c k : Nat) (s : State) : LeaseFrame c k s s :=
  ⟨fun _ _ => rfl, rfl, fun _ _ => rfl, fun _ _ => rfl, fun _ _ => rfl, fun _ => rfl, rfl, rfl, rfl, rfl, rfl, rfl, rfl⟩

theorem LeaseFrame.trans {c k : Nat} {s t u : State} (h : LeaseFrame c k s t) (h' : LeaseFrame c k t u) :
    LeaseFrame c k s u where
  ctx_ne j hj := (h'.ctx_ne j hj).trans (h.ctx_ne j hj)
  ctx := h'.ctx.trans h.ctx
  core_ne j hj := (h'.core_ne j hj).trans (h.core_ne j hj)
  wq j q := (h'.wq j q).trans (h.wq j q)
  slotOf j n := (h'.slotOf j n).trans (h.slotOf j n)
  iqCount j := (h'.iqCount j).trans (h.iqCount j)
  nextSeq := h'.nextSeq.trans h.nextSeq
  around := SameAround.trans h.around h'.around

/-- One step of a lease, `p` the lowest FREE register of the bank. -/
def leaseTo (c k a p : Nat) (s : State) : State :=
  (s.setReg k (bankOf a) p (.leased s.now)).updCtx c (fun x => { x with rename := Table.put x.rename a p })

theorem leaseOne_of_findFree {c k a p : Nat} {s : State} (h : s.findFree k (bankOf a) = some p) :
    leaseOne c k a s = leaseTo c k a p s := by simp only [leaseOne, h, leaseTo]

theorem leaseTo_frame (c k a p : Nat) (s : State) : LeaseFrame c k s (leaseTo c k a p s) where
  ctx_ne _ hj := State.updCtx_ctx_ne _ _ hj
  ctx := by rw [leaseTo, State.updCtx_ctx_same, State.setReg_ctx]
  core_ne _ hj := State.setReg_core_ne s _ _ _ hj
  wq := State.setReg_core_wq s k _ _ _
  slotOf := State.setReg_core_slotOf s k _ _ _
  iqCount := State.setReg_core_iqCount s k _ _ _
  nextSeq := rfl
  around := ⟨rfl, rfl, rfl, rfl, rfl, rfl⟩

theorem leaseTo_reg (c k a p : Nat) (s : State) (k' : Nat) (b : Bank) (q : Nat) :
    (leaseTo c k a p s).reg k' b q = if k' = k ∧ b = bankOf a ∧ q = p then .leased s.now else s.reg k' b q :=
  State.reg_setReg s k _ p _ k' b q

theorem leaseTo_renameOf (c k a p : Nat) (s : State) (a' : Nat) :
    ((leaseTo c k a p s).ctx c).renameOf a' = if a' = a then p else (s.ctx c).renameOf a' := by
  rw [leaseTo, State.updCtx_ctx_same]
  exact Table.get_put _ _ _ _ _

theorem leaseTo_freeList {c k a p : Nat} {s : State} {l : List Nat} (h : freeList s k (bankOf a) = p :: l) :
    freeList (leaseTo c k a p s) k (bankOf a) = l := by
  refine freeList_of_taken h rfl ?_ fun q hq => ?_
  · rw [leaseTo_reg, if_pos ⟨rfl, rfl, rfl⟩]
    exact RegState.noConfusion
  · rw [leaseTo_reg, if_neg fun h => hq h.2.2]

/-! ### The lease of a run of architected registers of one bank -/

/-- The leases of the architected registers `l`, in order. -/
def leaseAll (c k : Nat) (l : List Nat) (s : State) : State := l.foldl (fun s' a => leaseOne c k a s') s

/-- The architected registers `l` of bank `b` have been leased the lowest FREE registers `p` of the bank, in order. -/
structure Leased (c k : Nat) (b : Bank) (l : List Nat) (s t : State) : Prop where
  frame : LeaseFrame c k s t
  reg : ∀ b' p, t.reg k b' p
    = if b' = b ∧ p ∈ (freeList s k b).take l.length then .leased s.now else s.reg k b' p
  rename : ∀ (j a : Nat), l[j]? = some a → (freeList s k b)[j]? = some ((t.ctx c).renameOf a)
  rename_ne : ∀ a, a ∉ l → (t.ctx c).renameOf a = (s.ctx c).renameOf a

theorem leaseAll_leased {c k : Nat} {b : Bank} : ∀ (l : List Nat) (s : State), (∀ a ∈ l, bankOf a = b) → l.Nodup →
    l.length ≤ (freeList s k b).length → Leased c k b l s (leaseAll c k l s) := by
  intro l
  induction l with
  | nil => exact fun s _ _ _ => ⟨.refl c k s, fun b' p => by simp [leaseAll], fun j a h => by simp at h, fun _ _ => rfl⟩
  | cons a l ih =>
    intro s hbank hnodup hroom
    obtain ⟨hbank_a, hbank_l⟩ := List.forall_mem_cons.mp hbank
    subst hbank_a
    obtain ⟨ha, hnodup_l⟩ := List.nodup_cons.mp hnodup
    obtain ⟨p, f, hfree⟩ : ∃ p f, freeList s k (bankOf a) = p :: f := List.exists_cons_of_length_pos (by
      simp only [List.length_cons] at hroom
      omega)
    have hone : leaseOne c k a s = leaseTo c k a p s :=
      leaseOne_of_findFree (by rw [State.findFree_eq_head?, hfree, List.head?_cons])
    have hfree' : freeList (leaseTo c k a p s) k (bankOf a) = f := leaseTo_freeList hfree
    have hrest := ih (leaseTo c k a p s) hbank_l hnodup_l (by
      rw [hfree', ← Nat.add_le_add_iff_right (n := 1)]
      simpa [hfree] using hroom)
    rw [leaseAll, List.foldl_cons, hone, ← leaseAll]
    refine ⟨(leaseTo_frame c k a p s).trans hrest.frame, fun b' q => ?_, fun j a' hj => ?_, fun a' ha' => ?_⟩
    · rw [hrest.reg, hfree', leaseTo_reg, hfree, List.length_cons, List.take_succ_cons]
      by_cases hb : b' = bankOf a
      · by_cases hq : q = p <;> by_cases hmem : q ∈ f.take l.length <;> simp [hb, hq, hmem, leaseTo]
      · simp [hb]
    · cases j with
      | zero =>
        obtain rfl : a = a' := by simpa using hj
        rw [hfree, hrest.rename_ne a ha, leaseTo_renameOf, if_pos rfl]
        rfl
      | succ j =>
        rw [hfree, List.getElem?_cons_succ, ← hfree']
        exact hrest.rename j a' (by simpa using hj)
    · obtain ⟨hne, hmem⟩ := List.ne_and_not_mem_of_not_mem_cons ha'
      rw [hrest.rename_ne a' hmem, leaseTo_renameOf, if_neg hne]

/-! ### `Lease` -/

theorem bankOf_of_lt {a : Nat} (h : a < 32) : bankOf a = .int := if_pos h

theorem bankOf_of_le {a : Nat} (h : 32 ≤ a) : bankOf a = .fp := if_neg (Nat.not_lt.mpr h)

theorem lease_eq_leaseAll (c k : Nat) (s : State) :
    lease c k s = leaseAll c k (List.range' 32 32) (leaseAll c k (List.range 32) s) :=
  (List.foldl_append (f := fun s' a => leaseOne c k a s') (b := s) (l := List.range 32) (l' := List.range' 32 32))

/-- A lease gives each architected register the register of its position among the FREE ones of its bank, and takes the 32
lowest of each bank (44_context.md R291). -/
structure LeasedBoth (c k : Nat) (s t : State) : Prop where
  frame : LeaseFrame c k s t
  reg : ∀ b p, t.reg k b p = if p ∈ (freeList s k b).take 32 then .leased s.now else s.reg k b p
  renameInt : ∀ a < 32, (freeList s k .int)[a]? = some ((t.ctx c).renameOf a)
  renameFp : ∀ a < 32, (freeList s k .fp)[a]? = some ((t.ctx c).renameOf (32 + a))

theorem lease_leased {c k : Nat} {s : State} (hint : 32 ≤ (freeList s k .int).length)
    (hfp : 32 ≤ (freeList s k .fp).length) : LeasedBoth c k s (lease c k s) := by
  have h1 : Leased c k .int (List.range 32) s (leaseAll c k (List.range 32) s) :=
    leaseAll_leased _ s (fun a ha => bankOf_of_lt (List.mem_range.mp ha)) List.nodup_range (by simpa using hint)
  generalize hs1 : leaseAll c k (List.range 32) s = s1 at h1
  have hfree : freeList s1 k .fp = freeList s k .fp := freeList_congr h1.frame.around.1 fun p => by simp [h1.reg]
  have h2 : Leased c k .fp (List.range' 32 32) s1 (leaseAll c k (List.range' 32 32) s1) :=
    leaseAll_leased _ s1 (fun a ha => bankOf_of_le (List.mem_range'_1.mp ha).1) List.nodup_range' (by simpa [hfree] using hfp)
  rw [lease_eq_leaseAll, hs1]
  refine ⟨h1.frame.trans h2.frame, fun b p => ?_, fun a ha => ?_, fun a ha => ?_⟩
  · obtain ⟨_, _, _, _, _, hnow⟩ := h1.frame.around
    rw [h2.reg, h1.reg, hfree, hnow]
    cases b <;> simp
  · rw [h2.rename_ne a (by simp [List.mem_range'_1]; omega)]
    exact h1.rename a a (by simp [ha])
  · rw [← hfree]
    exact h2.rename a (32 + a) (by simp [ha])

/-! ### `Admit` -/

theorem emptySlot_eq_some {k n : Nat} {s : State} : emptySlot k s = some n ↔
    n < s.cfg.maxContexts ∧ (s.core k).slotOf n = none ∧ ∀ j < n, (s.core k).slotOf j ≠ none := by
  rw [emptySlot, List.find?_range_eq_some]
  simp [and_left_comm]

theorem emptySlot_eq_none {k : Nat} {s : State} :
    emptySlot k s = none ↔ ∀ n < s.cfg.maxContexts, (s.core k).slotOf n ≠ none := by
  simp [emptySlot]

/-- The state with slot `n` of core `k` given to context `c`, before its registers are leased. -/
def seat (c k n : Nat) (s : State) : State :=
  (s.updCore k (fun x => x.setSlot n (some c))).updCtx c (fun x => x.admitted k n (template s.cfg k n))

section Seat

variable (c k n : Nat) (s : State)

theorem seat_ctx_same : (seat c k n s).ctx c = (s.ctx c).admitted k n (template s.cfg k n) := State.updCtx_ctx_same _ _ _

theorem seat_ctx_ne {j : Nat} (hj : j ≠ c) : (seat c k n s).ctx j = s.ctx j := State.updCtx_ctx_ne _ _ hj

@[simp] theorem seat_reg (k' : Nat) (b : Bank) (p : Nat) : (seat c k n s).reg k' b p = s.reg k' b p :=
  State.reg_updCore (f := fun x => x.setSlot n (some c)) (fun b => Core.prf_setSlot _ _ _ b) k' b p

@[simp] theorem seat_wq (j : Nat) (q : Queue) : ((seat c k n s).core j).wq q = (s.core j).wq q :=
  State.read_updCore (f := fun x => x.setSlot n (some c)) (fun x => x.wq q) (Core.wq_setSlot _ _ _ q) j

@[simp] theorem seat_iqCount (j : Nat) : ((seat c k n s).core j).iqCount = (s.core j).iqCount :=
  State.read_updCore (f := fun x => x.setSlot n (some c)) (fun x => x.iqCount) rfl j

theorem seat_slotOf (j i : Nat) :
    ((seat c k n s).core j).slotOf i = if j = k ∧ i = n then some c else (s.core j).slotOf i := by
  rw [seat, State.updCtx_core, State.updCore_core]
  by_cases hj : j = k
  · subst hj
    simp [Core.slotOf_setSlot]
  · simp [hj]

theorem seat_core_ne {j : Nat} (hj : j ≠ k) : (seat c k n s).core j = s.core j :=
  State.updCore_core_ne s (fun x => x.setSlot n (some c)) hj

theorem seat_freeList (k' : Nat) (b : Bank) : freeList (seat c k n s) k' b = freeList s k' b :=
  freeList_congr rfl fun p => by rw [seat_reg]

end Seat

/-- Admission to slot `n` of core `k` (44_context.md R290). -/
structure AdmittedTo (c k n : Nat) (s t : State) : Prop where
  admitted : Admitted s t c k n (freeList s k) (s.reg k)
  ctx : { t.ctx c with rename := [] } = { (s.ctx c).admitted k n (template s.cfg k n) with rename := [] }
  ctx_ne : SameCtxsBut c s t
  core_ne : SameCoresBut k s t
  slotOf : ∀ j i, (t.core j).slotOf i = if j = k ∧ i = n then some c else (s.core j).slotOf i
  wq : ∀ j q, (t.core j).wq q = (s.core j).wq q
  iqCount : ∀ j, (t.core j).iqCount = (s.core j).iqCount
  nextSeq : t.eng.nextSeq = s.eng.nextSeq
  around : SameAround s t

theorem admitTo_spec {c k n : Nat} {s : State} (hn : emptySlot k s = some n) (hint : 32 ≤ (freeList s k .int).length)
    (hfp : 32 ≤ (freeList s k .fp).length) : ∃ t, admitTo c k s = .ok t ∧ AdmittedTo c k n s t := by
  have hleased : LeasedBoth c k (seat c k n s) (lease c k (seat c k n s)) :=
    lease_leased (by rwa [seat_freeList]) (by rwa [seat_freeList])
  refine ⟨lease c k (seat c k n s), ?_, ?_⟩
  · unfold admitTo
    rw [hn]
    exact if_neg (by rw [State.freeCount_eq, State.freeCount_eq]; omega)
  generalize lease c k (seat c k n s) = t at hleased
  obtain ⟨hframe, hreg, hinttab, hfptab⟩ := hleased
  have hctx : { t.ctx c with rename := [] } = { (s.ctx c).admitted k n (template s.cfg k n) with rename := [] } :=
    hframe.ctx.trans (by rw [seat_ctx_same])
  have hslot : ∀ j i, (t.core j).slotOf i = if j = k ∧ i = n then some c else (s.core j).slotOf i :=
    fun j i => (hframe.slotOf j i).trans (seat_slotOf c k n s j i)
  refine ⟨⟨?_, ?_, ?_, ?_, ?_, ?_, ?_, ?_, fun a ha => ?_, fun a ha => ?_, fun b p => ?_⟩, hctx, fun j hj => ?_, fun j hj => ?_,
    hslot, fun j q => ?_, fun j => ?_, hframe.nextSeq, SameAround.trans ⟨rfl, rfl, rfl, rfl, rfl, rfl⟩ hframe.around⟩
  · exact congrArg Context.attached hctx
  · exact congrArg Context.core hctx
  · exact congrArg Context.slot hctx
  · exact congrArg Context.robRing hctx
  · exact congrArg Context.lsqRing hctx
  · exact congrArg Context.ifqRing hctx
  · exact congrArg Context.icount hctx
  · rw [hslot, if_pos ⟨rfl, rfl⟩]
  · rw [← hinttab a ha, seat_freeList]
  · rw [← hfptab a ha, seat_freeList]
  · rw [hreg, seat_freeList, seat_reg]
    simp only [List.contains_iff_mem]
    rfl
  · exact (hframe.ctx_ne j hj).trans (seat_ctx_ne c k n s hj)
  · exact (hframe.core_ne j hj).trans (seat_core_ne c k n s hj)
  · rw [hframe.wq, seat_wq]
  · rw [hframe.iqCount, seat_iqCount]

theorem admitTo_ok {c k : Nat} {s t : State} (h : admitTo c k s = .ok t) :
    ∃ n, emptySlot k s = some n ∧ 32 ≤ (freeList s k .int).length ∧ 32 ≤ (freeList s k .fp).length
      ∧ AdmittedTo c k n s t := by
  obtain ⟨n, hn, hint, hfp, _⟩ := admit_ok c k s t h
  rw [State.freeCount_eq] at hint hfp
  obtain ⟨t', h', hspec⟩ := admitTo_spec (c := c) hn hint hfp
  cases h.symm.trans h'
  exact ⟨n, hn, hint, hfp, hspec⟩

theorem admitTo_coreFull {c k : Nat} {s : State} (h : emptySlot k s = none) : admitTo c k s = .error .coreFull := by
  unfold admitTo
  rw [h]

theorem admitTo_leaseShort {c k : Nat} {s : State} (h : emptySlot k s ≠ none)
    (hshort : (freeList s k .int).length < 32 ∨ (freeList s k .fp).length < 32) :
    admitTo c k s = .error .leaseShort := by
  obtain ⟨n, hn⟩ := Option.ne_none_iff_exists'.mp h
  unfold admitTo
  rw [hn]
  exact if_pos hshort

/-! ### ADD_CONTEXT -/

section Add

variable {s : State} {c k : BitVec 8}

theorem exec_addContext_ok {t : State} (hl : s.latch.set = false) (hc : c.toNat < s.cfg.numContexts)
    (hk : k.toNat < s.cfg.numCores) (ha : (s.ctx c.toNat).attached = false) (h : admitTo c.toNat k.toNat s = .ok t) :
    exec (.addContext c k) s = .next (t.answer (.ok [natWord (t.ctx c.toNat).slot])) := by
  simp only [exec, execAddContext]
  rw [checkCtx_pass c s _ hc, checkCore_pass k s _ hk, if_neg (by simp [ha]), h]
  exact perform_done _ s _ _ hl

theorem exec_addContext_rejected {r : RejectReason} (hl : s.latch.set = false) (hc : c.toNat < s.cfg.numContexts)
    (hk : k.toNat < s.cfg.numCores) (ha : (s.ctx c.toNat).attached = false) (h : admitTo c.toNat k.toNat s = .error r) :
    exec (.addContext c k) s = .next (s.answer (.reject r [])) := by
  simp only [exec, execAddContext]
  rw [checkCtx_pass c s _ hc, checkCore_pass k s _ hk, if_neg (by simp [ha]), h]
  exact perform_done _ s _ _ hl

end Add

/-- Settles O45: what `AdmittedTo` says of the state before the response is given. -/
theorem addContextLeasesLowest : Obligations.AddContextLeasesLowest := by
  intro s c k n hl hc hk ha hn hnone hlower hint hfp
  obtain ⟨t, hadmit, hspec⟩ := admitTo_spec (c := c.toNat) (emptySlot_eq_some.mpr ⟨hn, hnone, hlower⟩) hint hfp
  obtain ⟨hadmitted, hctx, hctx_ne, hcore_ne, hslot, hwq, hiq, hseq, haround⟩ := hspec
  have hslot_eq : (t.ctx c.toNat).slot = n := congrArg Context.slot hctx
  refine ⟨_, exec_addContext_ok hl hc hk ha hadmit, by rw [hslot_eq]; rfl, hadmitted, fun b j => ?_, ?_, ?_, ?_,
    fun j hj => ?_, hwq _, hiq _, hctx_ne, hcore_ne, hseq, haround⟩
  · exact (congrArg (fun x : Context => x.gen b j) hctx :)
  · exact (congrArg Context.wreg hctx :)
  · exact (congrArg Context.fetchPc hctx :)
  · exact (congrArg Context.fetchStallUntil hctx :)
  · exact (hslot _ j).trans (if_neg fun h => hj h.2)

/-- Settles O46: the two refusals of `Admit`. -/
theorem addContextRejected : Obligations.AddContextRejected := by
  refine fun s c k hl hc hk ha => ⟨fun hfull => ?_, fun hroom hshort => ?_⟩
  · exact exec_addContext_rejected hl hc hk ha (admitTo_coreFull (emptySlot_eq_none.mpr hfull))
  · refine exec_addContext_rejected hl hc hk ha (admitTo_leaseShort (fun hnone => ?_) hshort)
    obtain ⟨n, hn, hempty⟩ := hroom
    exact emptySlot_eq_none.mp hnone n hn hempty

end Sys2Proof.Machine

/-! PROOFS. Eviction (44_context.md R292): the registers it returns, its checks in their order, and EJECT_CONTEXT. -/

namespace Sys2Proof.Machine

open Sys2Proof.Safety

/-! ### The return of the rename targets -/

/-- The rename targets of the architected registers `l` go to FREE, in order. -/
def returnAll (k : Nat) (x : Context) (l : List Nat) (s : State) : State :=
  l.foldl (fun s' a => s'.setRegState k (bankOf a) (x.renameOf a) .free) s

/-- Whether register `p` of bank `b` is the rename target of one of the architected registers `l`. -/
abbrev targets (x : Context) (l : List Nat) (b : Bank) (p : Nat) : Bool :=
  l.any (fun a => decide (bankOf a = b) && decide (x.renameOf a = p))

theorem returnAll_spec (k : Nat) (x : Context) : ∀ (l : List Nat) (s : State), RegsOnly k s (returnAll k x l s)
    ∧ ∀ j b p, (returnAll k x l s).reg j b p
      = if j = k ∧ targets x l b p = true then { s.reg j b p with state := .free } else s.reg j b p := by
  intro l
  induction l with
  | nil => exact fun s => ⟨.refl k s, fun j b p => by simp [returnAll]⟩
  | cons a l ih =>
    intro s
    obtain ⟨honly, hreg⟩ := ih (s.setRegState k (bankOf a) (x.renameOf a) .free)
    refine ⟨(RegsOnly.setRegState s k _ _ _).trans honly, fun j b p => ?_⟩
    rw [returnAll, List.foldl_cons, ← returnAll, hreg, State.reg_setRegState, targets, targets, List.any_cons]
    by_cases hj : j = k
    · subst hj
      by_cases ha : bankOf a = b ∧ x.renameOf a = p
      · obtain ⟨rfl, rfl⟩ := ha
        simp
      · have hno : (decide (bankOf a = b) && decide (x.renameOf a = p)) = false := by simpa using ha
        have hne : ¬(b = bankOf a ∧ p = x.renameOf a) := fun h => ha ⟨h.1.symm, h.2.symm⟩
        simp only [hne, hno, Bool.false_or, and_false, if_false]
    · simp [hj]

/-! ### `Evict` -/

/-- Eviction of context `c`, whose checks all passed (44_context.md R292). -/
structure EvictedFrom (c : Nat) (s t : State) : Prop where
  reg : ∀ k b p, t.reg k b p
    = if k = (s.ctx c).core ∧ targets (s.ctx c) (List.range 64) b p = true then { s.reg k b p with state := .free }
      else s.reg k b p
  slotOf : ∀ k n, (t.core k).slotOf n
    = if k = (s.ctx c).core ∧ n = (s.ctx c).slot then none else (s.core k).slotOf n
  wq : ∀ k q, (t.core k).wq q = (s.core k).wq q
  iqCount : ∀ k, (t.core k).iqCount = (s.core k).iqCount
  core_ne : SameCoresBut (s.ctx c).core s t
  ctx : t.ctx c = (s.ctx c).evicted
  ctx_ne : SameCtxsBut c s t
  nextSeq : t.eng.nextSeq = s.eng.nextSeq
  around : SameAround s t

theorem evictedFrom_of_ok {c : Nat} {s t : State} (h : evict c s = .ok t) : EvictedFrom c s t := by
  obtain ⟨_, rfl⟩ := evict_ok c s t h
  obtain ⟨honly, hreg⟩ := returnAll_spec (s.ctx c).core (s.ctx c) (List.range 64) s
  have hreturn : returnRegs c s = returnAll (s.ctx c).core (s.ctx c) (List.range 64) s := rfl
  rw [← hreturn] at honly hreg
  generalize returnRegs c s = u at honly hreg
  let f : Core → Core := fun x => x.setSlot (s.ctx c).slot none
  refine ⟨fun k b p => ?_, fun k n => ?_, fun k q => ?_, fun k => ?_, fun k hk => ?_, ?_, fun j hj => ?_, honly.nextSeq,
    honly.around⟩
  · exact (State.reg_updCore (f := f) (fun b => Core.prf_setSlot _ _ _ b) k b p).trans (hreg k b p)
  · rw [State.updCtx_core, State.updCore_core]
    by_cases hk : k = (s.ctx c).core
    · subst hk
      simp [Core.slotOf_setSlot, honly.slotOf]
    · simp [hk, honly.slotOf]
  · exact (State.read_updCore (f := f) (fun x => x.wq q) (Core.wq_setSlot _ _ _ q) k).trans (honly.wq k q)
  · exact (State.read_updCore (f := f) (fun x => x.iqCount) rfl k).trans (honly.iqCount k)
  · exact (State.updCore_core_ne u f hk).trans (honly.core_ne k hk)
  · exact (State.updCtx_ctx_same _ _ _).trans (congrArg Context.evicted (honly.ctx c))
  · exact (State.updCtx_ctx_ne _ _ hj).trans (honly.ctx j)

/-! ### The first check that fails -/

/-- The rename target of `a` can be returned at `now`. -/
abbrev Returnable (s : State) (c a : Nat) : Prop :=
  (s.reg (s.ctx c).core (bankOf a) ((s.ctx c).renameOf a)).state = .architected
    ∧ (s.reg (s.ctx c).core (bankOf a) ((s.ctx c).renameOf a)).readyCycle ≤ s.now
    ∧ (s.reg (s.ctx c).core (bankOf a) ((s.ctx c).renameOf a)).specReadyCycle ≤ s.now

section First

variable {s : State} {c a : Nat}

theorem returnDefect_none (h : Returnable s c a) : returnDefect s c a = none := by
  obtain ⟨harch, hready, hspec⟩ := h
  simp only [returnDefect]
  rw [if_neg (by simp [harch]), if_neg]
  exact fun h => h.elim (BitVec.not_lt.mpr hready) (BitVec.not_lt.mpr hspec)

theorem returnDefect_regState
    (h : (s.reg (s.ctx c).core (bankOf a) ((s.ctx c).renameOf a)).state ≠ .architected) :
    returnDefect s c a = some .ejectRegState := if_pos h

theorem returnDefect_pending (h : (s.reg (s.ctx c).core (bankOf a) ((s.ctx c).renameOf a)).state = .architected)
    (hlate : s.now < (s.reg (s.ctx c).core (bankOf a) ((s.ctx c).renameOf a)).readyCycle
      ∨ s.now < (s.reg (s.ctx c).core (bankOf a) ((s.ctx c).renameOf a)).specReadyCycle) :
    returnDefect s c a = some .ejectPendingTimestamp :=
  (if_neg (not_not_intro h)).trans (if_pos hlate)

theorem evictDefect_notQuiescent (h : (s.ctx c).robRing.num ≠ 0 ∨ (s.ctx c).icount ≠ 0) :
    evictDefect c s = some .ejectNotQuiescent := if_pos h

section Empty

variable (hrob : (s.ctx c).robRing.num = 0) (hicount : (s.ctx c).icount = 0)

include hrob hicount

theorem evictDefect_desync (hlsq : (s.ctx c).lsqRing.num ≠ 0) : evictDefect c s = some .lsqDesync :=
  (if_neg (by simp [hrob, hicount])).trans (if_pos hlsq)

/-- With the buffers empty the first of the 64 rename targets that fails its check raises its defect. -/
theorem evictDefect_first {d : Defect} (hlsq : (s.ctx c).lsqRing.num = 0) (ha : a < 64)
    (hbefore : ∀ j < a, Returnable s c j) (hd : returnDefect s c a = some d) : evictDefect c s = some d := by
  refine (if_neg (by simp [hrob, hicount])).trans ((if_neg (by simp [hlsq])).trans ?_)
  have hsplit : List.range 64 = List.range a ++ a :: List.range' (a + 1) (64 - (a + 1)) := by
    rw [← List.range'_succ, show 64 - (a + 1) + 1 = 64 - a by omega, List.range_eq_range', List.range_eq_range',
      show List.range' a (64 - a) = List.range' (0 + 1 * a) (64 - a) by simp, List.range'_append,
      show a + (64 - a) = 64 by omega]
  rw [hsplit, List.findSome?_append, List.findSome?_cons, hd,
    List.findSome?_eq_none_iff.mpr fun j hj => returnDefect_none (hbefore j (List.mem_range.mp hj))]
  rfl

theorem evict_succeeds (hlsq : (s.ctx c).lsqRing.num = 0) (hregs : ∀ a < 64, Returnable s c a) :
    ∃ t, evict c s = .ok t := by
  unfold evict
  rw [(evictDefect_none c s).mpr ⟨hrob, hicount, hlsq, hregs⟩]
  exact ⟨_, rfl⟩

end Empty

theorem evict_of_defect {d : Defect} (h : evictDefect c s = some d) : evict c s = .error (d, s) := by
  unfold evict
  rw [h]

end First

/-! ### EJECT_CONTEXT -/

section Eject

variable {s : State} {c : BitVec 8}

theorem exec_ejectContext_ok {t : State} (hl : s.latch.set = false) (hc : c.toNat < s.cfg.numContexts)
    (ha : (s.ctx c.toNat).attached = true) (h : evict c.toNat s = .ok t) :
    exec (.ejectContext c) s
      = .next (t.answer (.ok [natWord (s.ctx c.toNat).core, natWord (s.ctx c.toNat).slot])) := by
  simp only [exec, execEjectContext]
  rw [checkCtx_pass c s _ hc, checkAttached_pass c s _ ha, h]
  exact perform_done _ s _ _ hl

theorem exec_ejectContext_defect {d : Defect} (hl : s.latch.set = false) (hc : c.toNat < s.cfg.numContexts)
    (ha : (s.ctx c.toNat).attached = true) (h : evictDefect c.toNat s = some d) :
    exec (.ejectContext c) s = .next (s.raiseFatal d (Instr.ejectContext c).header) := by
  simp only [exec, execEjectContext]
  rw [checkCtx_pass c s _ hc, checkAttached_pass c s _ ha, evict_of_defect h]
  exact perform_fatal _ s _ _ hl

end Eject

/-- Settles O47: what `EvictedFrom` says of the state before the response is given. -/
theorem ejectReturnsRegisters : Obligations.EjectReturnsRegisters := by
  intro s c hl hc ha x hrob hicount hlsq hregs
  obtain ⟨t, hevict⟩ := evict_succeeds hrob hicount hlsq hregs
  obtain ⟨hreg, hslot, hwq, hiq, _, hctx, hctx_ne, hseq, haround⟩ := evictedFrom_of_ok hevict
  refine ⟨_, exec_ejectContext_ok hl hc ha hevict, rfl, hreg, hslot, hwq, hiq, ?_⟩
  rw [State.answer_ctx, hctx]
  refine ⟨rfl, rfl, rfl, rfl, hicount, ?_, rfl, rfl, fun b j => ?_, hctx_ne, hseq, haround⟩
  · simp [Context.evicted, Nat.pos_iff_ne_zero, x]
  · cases b <;> rfl

/-- Settles O48: the checks of `evictDefect` in their order. -/
theorem ejectDefectsInOrder : Obligations.EjectDefectsInOrder := by
  intro s c hl hc ha x r passes raises
  have hraises : ∀ d, evictDefect c.toNat s = some d → raises d := fun d hd =>
    ⟨_, exec_ejectContext_defect hl hc ha hd, latched_raiseFatal s d _⟩
  refine ⟨fun h => hraises _ (evictDefect_notQuiescent h), fun hrob hicount hlsq =>
    hraises _ (evictDefect_desync hrob hicount hlsq), fun hrob hicount hlsq a ha64 hbefore => ⟨fun hstate => ?_,
      fun harch hlate => ?_⟩⟩
  · exact hraises _ (evictDefect_first hrob hicount hlsq ha64 hbefore (returnDefect_regState hstate))
  · exact hraises _ (evictDefect_first hrob hicount hlsq ha64 hbefore (returnDefect_pending harch hlate))

end Sys2Proof.Machine

/-! PROOFS. What a squash leaves alone, whether it ends in success or in a defect (43_rollback.md R260 to R263). -/

namespace Sys2Proof.Machine

open Sys2Proof.Safety

/-! ### The part of a context that no squash reaches -/

/-- The context without what a squash of its entries changes. -/
def Context.still (x : Context) : Context :=
  { x with
    rob := [], lsq := [], rename := [], wreg := [], icount := 0
    robRing := ⟨x.robRing.head, 0, 0, x.robRing.cap⟩
    lsqRing := ⟨x.lsqRing.head, 0, 0, x.lsqRing.cap⟩ }

/-- `t` is reached from `s` by squashing entries of context `c`, whole or in part. -/
structure SquashFrame (c : Nat) (s t : State) : Prop where
  cfg : t.cfg = s.cfg
  latch : t.latch = s.latch
  port : t.port = s.port
  now : t.now = s.now
  nextSeq : t.eng.nextSeq = s.eng.nextSeq
  trace : s.trace <+: t.trace
  mem : s.env.mem.wf = true → t.env.mem.wf = true
  insnGlobal : t.env.insnGlobal = s.env.insnGlobal
  insn : t.env.insn = s.env.insn
  ctx_ne : SameCtxsBut c s t
  ctx : (t.ctx c).still = (s.ctx c).still
  core_ne : SameCoresBut (s.ctx c).core s t
  slotOf : ∀ k n, (t.core k).slotOf n = (s.core k).slotOf n
  reg : ∀ k b p, t.reg k b p = s.reg k b p
    ∨ (s.reg k b p).state = .alloc ∧ t.reg k b p = { s.reg k b p with state := .free }

namespace SquashFrame

variable {c : Nat} {s t u : State}

theorem core (h : SquashFrame c s t) : (t.ctx c).core = (s.ctx c).core := (congrArg Context.core h.ctx :)

theorem refl (c : Nat) (s : State) : SquashFrame c s s :=
  ⟨rfl, rfl, rfl, rfl, rfl, List.prefix_rfl, id, rfl, rfl, fun _ _ => rfl, rfl, fun _ _ => rfl, fun _ _ => rfl,
    fun _ _ _ => .inl rfl⟩

theorem trans (h : SquashFrame c s t) (h' : SquashFrame c t u) : SquashFrame c s u where
  cfg := h'.cfg.trans h.cfg
  latch := h'.latch.trans h.latch
  port := h'.port.trans h.port
  now := h'.now.trans h.now
  nextSeq := h'.nextSeq.trans h.nextSeq
  trace := h.trace.trans h'.trace
  mem := h'.mem ∘ h.mem
  insnGlobal := h'.insnGlobal.trans h.insnGlobal
  insn := h'.insn.trans h.insn
  ctx_ne j hj := (h'.ctx_ne j hj).trans (h.ctx_ne j hj)
  ctx := h'.ctx.trans h.ctx
  core_ne j hj := (h'.core_ne j (h.core ▸ hj)).trans (h.core_ne j hj)
  slotOf k n := (h'.slotOf k n).trans (h.slotOf k n)
  reg k b p := by
    obtain h1 | ⟨halloc, h1⟩ := h.reg k b p
    · rw [← h1]
      exact h'.reg k b p
    · refine .inr ⟨halloc, ?_⟩
      obtain h2 | ⟨halloc', _⟩ := h'.reg k b p
      · exact h2.trans h1
      · rw [h1] at halloc'
        cases halloc'

theorem updCtx {f : Context → Context} (hf : (f (s.ctx c)).still = (s.ctx c).still) : SquashFrame c s (s.updCtx c f) where
  cfg := rfl
  latch := rfl
  port := rfl
  now := rfl
  nextSeq := rfl
  trace := List.prefix_rfl
  mem := id
  insnGlobal := rfl
  insn := rfl
  ctx_ne _ hj := State.updCtx_ctx_ne s f hj
  ctx := by rw [State.updCtx_ctx_same, hf]
  core_ne _ _ := rfl
  slotOf _ _ := rfl
  reg _ _ _ := .inl rfl

/-- An update of the context's core that leaves slots and registers alone. -/
theorem updCore {f : Core → Core} (hslot : ∀ n, (f (s.core (s.ctx c).core)).slotOf n = (s.core (s.ctx c).core).slotOf n)
    (hreg : ∀ b, (f (s.core (s.ctx c).core)).prf b = (s.core (s.ctx c).core).prf b) :
    SquashFrame c s (s.updCore (s.ctx c).core f) where
  cfg := rfl
  latch := rfl
  port := rfl
  now := rfl
  nextSeq := rfl
  trace := List.prefix_rfl
  mem := id
  insnGlobal := rfl
  insn := rfl
  ctx_ne _ _ := rfl
  ctx := rfl
  core_ne _ hj := State.updCore_core_ne s f hj
  slotOf k n := State.read_updCore (fun x => x.slotOf n) (hslot n) k
  reg k b p := .inl (State.reg_updCore hreg k b p)

theorem removeFromAllQueues (b : Buf) (i : Nat) :
    SquashFrame c s (Sys2Proof.Machine.removeFromAllQueues (s.ctx c).core c b i s) :=
  updCore (fun _ => rfl) fun b => by cases b <;> rfl

theorem replayWrite (a : Word) (n : BitVec 4) (d : Word) : SquashFrame c s (replayWrite a n d s) where
  cfg := rfl
  latch := rfl
  port := rfl
  now := rfl
  nextSeq := rfl
  trace := List.prefix_append _ _
  mem := Memory.wf_replayWrite s a n d
  insnGlobal := rfl
  insn := rfl
  ctx_ne _ _ := rfl
  ctx := rfl
  core_ne _ _ := rfl
  slotOf _ _ := rfl
  reg _ _ _ := .inl rfl

theorem releaseIqSlot (b : Buf) (i : Nat) : SquashFrame c s (releaseIqSlot c b i s) := by
  obtain ⟨_, h⟩ | ⟨_, h⟩ := releaseIqSlot_cases c b i s
  · rw [h]
    exact refl c s
  · rw [h]
    refine (updCore (f := fun x => { x with iqCount := x.iqCount - 1 }) (fun _ => rfl) fun b => by cases b <;> rfl).trans
      (updCtx ?_)
    cases b <;> rfl

/-- An ALLOC register goes to FREE. -/
theorem freeReg {b : Bank} {p : Nat} (h : (s.reg (s.ctx c).core b p).state = .alloc) :
    SquashFrame c s (s.setRegState (s.ctx c).core b p .free) where
  cfg := rfl
  latch := rfl
  port := rfl
  now := rfl
  nextSeq := rfl
  trace := List.prefix_rfl
  mem := id
  insnGlobal := rfl
  insn := rfl
  ctx_ne _ _ := rfl
  ctx := rfl
  core_ne _ hj := State.setRegState_core_ne s _ _ _ hj
  slotOf k n := State.setRegState_core_slotOf s _ _ _ _ k n
  reg k b' p' := by
    rw [State.reg_setRegState]
    split
    · obtain ⟨rfl, rfl, rfl⟩ := ‹_ ∧ _›
      exact .inr ⟨h, rfl⟩
    · exact .inl rfl

end SquashFrame

/-! ### The state in which a procedure ends -/

/-- The state in which an internal procedure ends, the defect point where it fails. -/
def endState : Except (Defect × State) State → State
  | .ok s => s
  | .error r => r.2

/-- Removing memberships of the ROB's or the LSQ's tail entry and the tail entry itself. -/
theorem squashFrame_popLsq (c : Nat) (i : Nat) (s : State) :
    SquashFrame c s ((removeFromAllQueues (s.ctx c).core c .lsq i s).updCtx c (fun y => { y with lsqRing := y.lsqRing.popTail })) :=
  (SquashFrame.removeFromAllQueues .lsq i).trans (SquashFrame.updCtx rfl)

theorem squashPartner_frame (c : Nat) (e : Entry) (s : State) : SquashFrame c s (endState (squashPartner c e s)) := by
  unfold squashPartner
  split
  · dsimp only
    split
    · exact .refl c s
    · split
      · exact .refl c s
      · split
        · exact SquashFrame.replayWrite _ _ _
        · split
          · exact (SquashFrame.replayWrite _ _ _).trans (squashFrame_popLsq c _ (replayWrite _ _ _ s))
          · exact squashFrame_popLsq c _ s
  · exact .refl c s

theorem restoreDest_frame (c : Nat) (e : Entry) (s : State) : SquashFrame c s (endState (restoreDest c e s)) := by
  unfold restoreDest
  split
  · exact .refl c s
  · dsimp only
    split
    · dsimp only [endState]
      exact (SquashFrame.freeReg ‹_›).trans (SquashFrame.updCtx rfl)
    · exact .refl c s

theorem squashEntry_frame (c : Nat) (s : State) : SquashFrame c s (endState (squashEntry c s)) := by
  have hpartner := squashPartner_frame c ((s.ctx c).entry .rob (s.ctx c).robRing.last) s
  unfold squashEntry
  dsimp only
  split
  · rename_i h
    rwa [h] at hpartner
  · rename_i s1 h
    rw [h] at hpartner
    change SquashFrame c s s1 at hpartner
    have hqueues : SquashFrame c s (removeFromAllQueues (s.ctx c).core c .rob (s.ctx c).robRing.last s1) := by
      rw [← hpartner.core]
      exact hpartner.trans (SquashFrame.removeFromAllQueues .rob _)
    have hrelease := hqueues.trans (SquashFrame.releaseIqSlot .rob (s.ctx c).robRing.last)
    have hdest := hrelease.trans (restoreDest_frame c ((s.ctx c).entry .rob (s.ctx c).robRing.last) _)
    split
    · rename_i h'
      rwa [h'] at hdest
    · rename_i s2 h'
      rw [h'] at hdest
      dsimp only [endState] at hdest ⊢
      exact hdest.trans (SquashFrame.updCtx rfl)

theorem squashMany_frame (c : Nat) : ∀ (n : Nat) (s : State), SquashFrame c s (endState (squashMany c n s)) := by
  intro n
  induction n with
  | zero => exact fun s => .refl c s
  | succ n ih =>
    intro s
    have hone := squashEntry_frame c s
    unfold squashMany
    split
    · rename_i h
      rwa [h] at hone
    · rename_i s1 h
      rw [h] at hone
      exact hone.trans (ih s1)

theorem squashMany_frame_ok {c n : Nat} {s t : State} (h : squashMany c n s = .ok t) : SquashFrame c s t := by
  have hframe := squashMany_frame c n s
  rwa [h] at hframe

theorem squashMany_frame_error {c n : Nat} {s t : State} {d : Defect} (h : squashMany c n s = .error (d, t)) :
    SquashFrame c s t := by
  have hframe := squashMany_frame c n s
  rwa [h] at hframe

/-! ### The defects of a squash -/

/-- The defects a squash can raise (43_rollback.md R260, R263). -/
def Defect.ofSquash : Defect → Prop
  | .lsqDesync => True
  | .doubleFree => True
  | .memReplayFault => True
  | _ => False

theorem squashPartner_defect {c : Nat} {e : Entry} {s t : State} {d : Defect} (h : squashPartner c e s = .error (d, t)) :
    d.ofSquash := by
  unfold squashPartner at h
  split at h
  · dsimp only at h
    split at h
    · cases h
      trivial
    · split at h
      · cases h
        trivial
      · split at h
        · cases h
          trivial
        · cases h
  · cases h

theorem restoreDest_defect {c : Nat} {e : Entry} {s t : State} {d : Defect} (h : restoreDest c e s = .error (d, t)) :
    d.ofSquash := by
  unfold restoreDest at h
  split at h
  · cases h
  · dsimp only at h
    split at h
    · cases h
    · cases h
      trivial

theorem squashEntry_defect {c : Nat} {s t : State} {d : Defect} (h : squashEntry c s = .error (d, t)) : d.ofSquash := by
  unfold squashEntry at h
  dsimp only at h
  split at h
  · cases h
    exact squashPartner_defect ‹_›
  · split at h
    · cases h
      exact restoreDest_defect ‹_›
    · cases h

theorem squashMany_defect {c n : Nat} {s t : State} {d : Defect} (h : squashMany c n s = .error (d, t)) : d.ofSquash := by
  induction n generalizing s with
  | zero => cases h
  | succ n ih =>
    unfold squashMany at h
    split at h
    · cases h
      exact squashEntry_defect ‹_›
    · exact ih h

/-! ### A flush -/

/-- A flush that fails: in its squash, or in finding the LSQ not empty after it. -/
theorem flushBody_error {c : Nat} {s t : State} {d : Defect} (h : flushBody c s = .error (d, t)) :
    squashMany c (s.ctx c).robRing.num s = .error (d, t)
      ∨ d = .lsqDesync ∧ squashMany c (s.ctx c).robRing.num s = .ok t ∧ (t.ctx c).lsqRing.num ≠ 0 := by
  unfold flushBody at h
  split at h
  · cases h
    exact .inl ‹_›
  · split at h
    · cases h
    · cases h
      exact .inr ⟨rfl, ‹_›, ‹_›⟩

theorem flushBody_frame_error {c : Nat} {s t : State} {d : Defect} (h : flushBody c s = .error (d, t)) :
    SquashFrame c s t := by
  obtain h | ⟨_, h, _⟩ := flushBody_error h
  · exact squashMany_frame_error h
  · exact squashMany_frame_ok h

theorem flushBody_defect {c : Nat} {s t : State} {d : Defect} (h : flushBody c s = .error (d, t)) : d.ofSquash := by
  obtain h | ⟨rfl, _, _⟩ := flushBody_error h
  · exact squashMany_defect h
  · trivial

end Sys2Proof.Machine

/-! PROOFS. What every command leaves alone (10_state.md section 1, R44, R53, 60_exceptions.md section 1), from the ways a
command can end. -/

namespace Sys2Proof.Machine

open Sys2Proof.Safety

/-! ### The reach of a command -/

/-- Command `i` names context `j`. -/
abbrev ReachesCtx (i : Instr) (j : Nat) : Prop := ∃ c ∈ usesCtx i, c.toNat = j

/-- Command `i`, performed at `s`, names core `k` or a context attached to it. -/
abbrev ReachesCore (i : Instr) (s : State) (k : Nat) : Prop :=
  (∃ k' ∈ usesCore i, k'.toNat = k) ∨ ∃ c ∈ usesCtx i, (s.ctx c.toNat).attached = true ∧ (s.ctx c.toNat).core = k

/-- The change from `s` to `t` is one that command `i`, performed at `s₀`, may make to the state. -/
structure Within (i : Instr) (s₀ s t : State) : Prop where
  cfg : t.cfg = s.cfg
  latch : t.latch = s.latch
  port : t.port = s.port
  now : t.now = s.now
  trace : s.trace <+: t.trace
  mem : s.env.mem.wf = true → t.env.mem.wf = true
  ctx : ∀ j, ¬ ReachesCtx i j → t.ctx j = s.ctx j
  core : ∀ k, ¬ ReachesCore i s₀ k → t.core k = s.core k
  genLe : ∀ j b n, (s.ctx j).gen b n ≤ (t.ctx j).gen b n
  gen : (∀ c p, i ≠ .dispatch c p) → ∀ j b n, (t.ctx j).gen b n = (s.ctx j).gen b n

namespace Within

variable {i : Instr} {s₀ s t u : State} {c k : Nat}

theorem refl (i : Instr) (s₀ s : State) : Within i s₀ s s :=
  ⟨rfl, rfl, rfl, rfl, List.prefix_rfl, id, fun _ _ => rfl, fun _ _ => rfl, fun _ _ _ => Nat.le_refl _, fun _ _ _ _ => rfl⟩

theorem trans (h : Within i s₀ s t) (h' : Within i s₀ t u) : Within i s₀ s u where
  cfg := h'.cfg.trans h.cfg
  latch := h'.latch.trans h.latch
  port := h'.port.trans h.port
  now := h'.now.trans h.now
  trace := h.trace.trans h'.trace
  mem := h'.mem ∘ h.mem
  ctx j hj := (h'.ctx j hj).trans (h.ctx j hj)
  core j hj := (h'.core j hj).trans (h.core j hj)
  genLe j b n := (h.genLe j b n).trans (h'.genLe j b n)
  gen hi j b n := (h'.gen hi j b n).trans (h.gen hi j b n)

/-- A change confined to one context and one core that leaves the generations and what lies outside the engine alone. -/
theorem of_around (haround : SameAround s t) (hc : ReachesCtx i c) (hk : ReachesCore i s₀ k) (hctx : SameCtxsBut c s t)
    (hcore : SameCoresBut k s t) (hgen : ∀ b n, (t.ctx c).gen b n = (s.ctx c).gen b n) : Within i s₀ s t := by
  obtain ⟨hcfg, hlatch, htrace, henv, hport, hnow⟩ := haround
  have hgens : ∀ j b n, (t.ctx j).gen b n = (s.ctx j).gen b n := fun j b n => by
    by_cases hj : j = c
    · subst hj
      exact hgen b n
    · rw [hctx j hj]
  exact ⟨hcfg, hlatch, hport, hnow, htrace ▸ List.prefix_rfl, henv ▸ id, fun j hj => hctx j fun h => hj (h ▸ hc),
    fun j hj => hcore j fun h => hj (h ▸ hk), fun j b n => (hgens j b n).ge, fun _ => hgens⟩

/-- An update of one context that leaves its generations alone. -/
theorem updCtx {f : Context → Context} (hc : ReachesCtx i c) (hgen : ∀ b n, (f (s.ctx c)).gen b n = (s.ctx c).gen b n) :
    Within i s₀ s (s.updCtx c f) where
  cfg := rfl
  latch := rfl
  port := rfl
  now := rfl
  trace := List.prefix_rfl
  mem := id
  ctx _ hj := State.updCtx_ctx_ne s f fun h => hj (h ▸ hc)
  core _ _ := rfl
  genLe j b n := (State.read_updCtx (fun x => x.gen b n) (hgen b n) j).ge
  gen _ j b n := State.read_updCtx (fun x => x.gen b n) (hgen b n) j

/-- An update of one core. -/
theorem updCore {f : Core → Core} (hk : ReachesCore i s₀ k) : Within i s₀ s (s.updCore k f) where
  cfg := rfl
  latch := rfl
  port := rfl
  now := rfl
  trace := List.prefix_rfl
  mem := id
  ctx _ _ := rfl
  core _ hj := State.updCore_core_ne s f fun h => hj (h ▸ hk)
  genLe _ _ _ := Nat.le_refl _
  gen _ _ _ _ := rfl

theorem afterDraw : Within i s₀ s s.afterDraw :=
  ⟨rfl, rfl, rfl, rfl, List.prefix_rfl, id, fun _ _ => rfl, fun _ _ => rfl, fun _ _ _ => Nat.le_refl _, fun _ _ _ _ => rfl⟩

theorem emit (ev : Event) : Within i s₀ s (s.emit ev) :=
  ⟨rfl, rfl, rfl, rfl, List.prefix_append _ _, id, fun _ _ => rfl, fun _ _ => rfl, fun _ _ _ => Nat.le_refl _,
    fun _ _ _ _ => rfl⟩

theorem emitCountDec (c n : Nat) : Within i s₀ s (emitCountDec c n s) :=
  ⟨rfl, rfl, rfl, rfl, List.prefix_append _ _, id, fun _ _ => rfl, fun _ _ => rfl, fun _ _ _ => Nat.le_refl _,
    fun _ _ _ _ => rfl⟩

theorem of_squash (h : SquashFrame c s t) (hc : ReachesCtx i c) (hk : ReachesCore i s₀ (s.ctx c).core) : Within i s₀ s t := by
  have hgen : ∀ j b n, (t.ctx j).gen b n = (s.ctx j).gen b n := fun j b n => by
    by_cases hj : j = c
    · subst hj
      have hstill := h.ctx
      cases b
      · exact (congrArg (fun x : Context => x.gen .rob n) hstill :)
      · exact (congrArg (fun x : Context => x.gen .lsq n) hstill :)
    · rw [h.ctx_ne j hj]
  exact ⟨h.cfg, h.latch, h.port, h.now, h.trace, h.mem, fun j hj => h.ctx_ne j fun e => hj (e ▸ hc),
    fun j hj => h.core_ne j fun e => hj (e ▸ hk), fun j b n => (hgen j b n).ge, fun _ => hgen⟩

theorem afterRollback (hc : ReachesCtx i c) (slot n : Nat) (m : Bool) : Within i s₀ s (afterRollback c slot m n s) := by
  unfold Sys2Proof.Machine.afterRollback
  refine trans ?_ (emitCountDec c n)
  split
  · exact (updCtx hc fun b _ => by cases b <;> rfl).trans (emit _)
  · exact updCtx hc fun b _ => by cases b <;> rfl

theorem flushBody (h : flushBody c s = .ok t) (hc : ReachesCtx i c) (hk : ReachesCore i s₀ (s.ctx c).core) :
    Within i s₀ s t := by
  obtain ⟨s1, hsquash, _, rfl⟩ := flushBody_ok c s t h
  exact (of_squash (squashMany_frame_ok hsquash) hc hk).trans
    ((updCtx hc fun b _ => by cases b <;> rfl).trans (emitCountDec _ _))

theorem evict (h : evict c s = .ok t) (hc : ReachesCtx i c) (hk : ReachesCore i s₀ (s.ctx c).core) : Within i s₀ s t := by
  have hspec := evictedFrom_of_ok h
  refine of_around hspec.around hc hk hspec.ctx_ne hspec.core_ne fun b n => ?_
  rw [hspec.ctx]
  cases b <;> rfl

theorem admitTo (h : admitTo c k s = .ok t) (hc : ReachesCtx i c) (hk : ReachesCore i s₀ k) : Within i s₀ s t := by
  obtain ⟨n, _, _, _, hspec⟩ := admitTo_ok h
  exact of_around hspec.around hc hk hspec.ctx_ne hspec.core_ne fun b j =>
    (congrArg (fun x : Context => x.gen b j) hspec.ctx :).trans (by cases b <;> rfl)

theorem releaseIqSlot (hc : ReachesCtx i c) (hk : ReachesCore i s₀ (s.ctx c).core) (b : Buf) (n : Nat) :
    Within i s₀ s (releaseIqSlot c b n s) := of_squash (SquashFrame.releaseIqSlot b n) hc hk

theorem dispatchWrite (hc : ReachesCtx i c) (hk : ReachesCore i s₀ (s.ctx c).core) {kl : Config.OpClass} {p : DispatchWords}
    (hi : ∃ c p, i = .dispatch c p) : Within i s₀ s (dispatchWrite c kl p s) := by
  obtain ⟨hcfg, hlatch, htrace, hport, hnow, henv⟩ := dispatchWrite_around c kl p s
  refine ⟨hcfg, hlatch, hport, hnow, htrace ▸ List.prefix_rfl, by rw [henv]; exact id, fun j hj =>
    dispatchWrite_ctx_ne c kl p s fun e => hj (e ▸ hc), fun j hj => dispatchWrite_core_ne c kl p s fun e => hj (e ▸ hk),
    fun j b n => ?_, fun hno => absurd hi (by rintro ⟨c, p, rfl⟩; exact hno c p rfl)⟩
  by_cases hj : j = c
  · subst hj
    rw [dispatchWrite_ctx_same]
    cases b with
    | rob =>
      rw [Context.dispatched_gen_rob]
      split
      · subst_vars
        omega
      · exact Nat.le_refl _
    | lsq =>
      cases hmem : isMem kl with
      | false =>
        obtain ⟨_, hgen, _⟩ := Context.dispatched_lsq_of_not_mem (s.ctx j) kl p s.eng.nextSeq (takes j kl p s) hmem
        exact (congrArg (Table.get 0 · n) hgen).ge
      | true =>
        rw [Context.dispatched_gen_lsq _ _ _ _ _ hmem]
        split
        · subst_vars
          omega
        · exact Nat.le_refl _
  · rw [dispatchWrite_ctx_ne c kl p s hj]

theorem commit {e : Entry} (h : commitReg k e s = .ok t) (hc : ReachesCtx i c) (hk : ReachesCore i s₀ k)
    (hcore : (s.ctx c).core = k) : Within i s₀ s (retireHead c e t) := by
  obtain ⟨honly, _⟩ := commitReg_spec h
  refine of_around (SameAround.trans honly.around (retireHead_around c e t)) hc hk (fun j hj => ?_) (fun j hj => ?_)
    fun b n => ?_
  · rw [retireHead_ctx_ne c e t hj, honly.ctx]
  · rw [retireHead_core_ne c e t (by rwa [honly.ctx, hcore]), honly.core_ne j hj]
  · rw [retireHead_ctx_same, honly.ctx]
    cases b <;> rfl

end Within

/-- The context as the end of a flush leaves it. -/
def Context.flushed (x : Context) (pc : Word) : Context :=
  { x with
    robRing := x.robRing.clear, lsqRing := x.lsqRing.clear, ifqRing := x.ifqRing.clear, icount := 0, fetchPc := pc }

theorem flushFinish_ctx_same (c n : Nat) (pc : Word) (s : State) :
    (flushFinish c n pc s).ctx c = (s.ctx c).flushed pc := State.updCtx_ctx_same s c (fun y => y.flushed pc)

theorem flushFinish_ctx_ne {c j : Nat} (n : Nat) (pc : Word) (s : State) (hj : j ≠ c) :
    (flushFinish c n pc s).ctx j = s.ctx j := State.updCtx_ctx_ne s (fun y => y.flushed pc) hj

theorem flushBody_core {c : Nat} {s t : State} (h : flushBody c s = .ok t) : (t.ctx c).core = (s.ctx c).core := by
  obtain ⟨s1, hsquash, _, rfl⟩ := flushBody_ok c s t h
  refine Eq.trans ?_ (squashMany_frame_ok hsquash).core
  rw [flushFinish_ctx_same]
  rfl

/-- The flush and the eviction of a transfer. -/
theorem within_flushBody_evict {i : Instr} {s s1 s2 : State} {c : BitVec 8} (hflush : flushBody c.toNat s = .ok s1)
    (hevict : evict c.toNat s1 = .ok s2) (huses : usesCtx i = some c) (ha : (s.ctx c.toNat).attached = true) :
    Within i s s s2 :=
  (Within.flushBody hflush ⟨c, huses, rfl⟩ (.inr ⟨c, huses, ha, rfl⟩)).trans
    (Within.evict hevict ⟨c, huses, rfl⟩ (.inr ⟨c, huses, ha, (flushBody_core hflush).symm⟩))

/-- Whatever a command does, it does within its reach. -/
theorem Performed.within {i : Instr} {s s' : State} {r : Response} (h : Performed s i s' r) : Within i s s s' := by
  cases h with
  | declined _ => exact .refl i s s
  | read _ => exact .refl i s s
  | deadRead _ _ _ _ => exact .afterDraw
  | dispatched h =>
    obtain ⟨_, _, ha, _⟩ := h
    exact .dispatchWrite ⟨_, rfl, rfl⟩ (.inr ⟨_, rfl, ha, rfl⟩) ⟨_, _, rfl⟩
  | markedQueued _ _ _ => exact .updCtx ⟨_, rfl, rfl⟩ (Context.gen_setEntry _ _ _ _)
  | issued _ hlive _ =>
    refine (Within.updCtx ⟨_, rfl, rfl⟩ (Context.gen_setEntry _ _ _ _)).trans (.releaseIqSlot ⟨_, rfl, rfl⟩ (.inr ⟨_, rfl, ?_⟩) _ _)
    obtain ⟨ha, _⟩ := (State.live_iff _ _ _ _ _).mp hlive
    exact ⟨ha, (State.setEntry_ctx_core s _ _ _ _ _).symm⟩
  | completed _ _ _ => exact .updCtx ⟨_, rfl, rfl⟩ (Context.gen_setEntry _ _ _ _)
  | committed _ ha _ _ _ hreg => exact .commit hreg ⟨_, rfl, rfl⟩ (.inr ⟨_, rfl, ha, rfl⟩) rfl
  | rolledBack _ hlive hsquash =>
    obtain ⟨ha, _⟩ := (State.live_iff _ _ _ _ _).mp hlive
    exact (Within.of_squash (squashMany_frame_ok hsquash) ⟨_, rfl, rfl⟩ (.inr ⟨_, rfl, ha, rfl⟩)).trans
      (.afterRollback ⟨_, rfl, rfl⟩ _ _ _)
  | flushed _ ha hflush => exact .flushBody hflush ⟨_, rfl, rfl⟩ (.inr ⟨_, rfl, ha, rfl⟩)
  | added _ _ _ hadmit => exact .admitTo hadmit ⟨_, rfl, rfl⟩ (.inl ⟨_, rfl, rfl⟩)
  | addRejected _ _ _ => exact .refl _ s s
  | ejected _ ha hevict => exact .evict hevict ⟨_, rfl, rfl⟩ (.inr ⟨_, rfl, ha, rfl⟩)
  | transferred _ _ ha hflush hevict hadmit =>
    exact (within_flushBody_evict hflush hevict rfl ha).trans (.admitTo hadmit ⟨_, rfl, rfl⟩ (.inl ⟨_, rfl, rfl⟩))
  | transferRejected _ _ ha hflush hevict _ => exact within_flushBody_evict hflush hevict rfl ha
  | setReady _ _ => exact .updCore (.inl ⟨_, rfl, rfl⟩)
  | inserted _ _ _ _ => exact .updCore (.inl ⟨_, rfl, rfl⟩)
  | popped _ _ => exact .trans .afterDraw (.updCore (.inl ⟨_, rfl, rfl⟩))
  | removed _ _ => exact .updCore (.inl ⟨_, rfl, rfl⟩)
  | pushed _ _ _ => exact .updCtx ⟨_, rfl, rfl⟩ fun b _ => by cases b <;> rfl
  | poppedIfq _ _ _ _ => exact .updCtx ⟨_, rfl, rfl⟩ fun b _ => by cases b <;> rfl
  | wroteWreg _ => exact .updCtx ⟨_, rfl, rfl⟩ fun b _ => by cases b <;> rfl
  | setPc _ => exact .updCtx ⟨_, rfl, rfl⟩ fun b _ => by cases b <;> rfl

theorem Raised.within {i : Instr} {s s' : State} {d : Defect} (h : Raised s i s' d) : Within i s s s' := by
  cases h with
  | notAttached _ _ _ _ => exact .refl i s s
  | alreadyAttached _ _ => exact .refl _ s s
  | atOnce _ _ => exact .refl i s s
  | rollbackFailed _ hlive hsquash =>
    obtain ⟨ha, _⟩ := (State.live_iff _ _ _ _ _).mp hlive
    exact .of_squash (squashMany_frame_error hsquash) ⟨_, rfl, rfl⟩ (.inr ⟨_, rfl, ha, rfl⟩)
  | flushFailed _ ha hflush =>
    exact .of_squash (flushBody_frame_error hflush) ⟨_, rfl, rfl⟩ (.inr ⟨_, rfl, ha, rfl⟩)
  | transferFlushFailed _ ha hflush =>
    exact .of_squash (flushBody_frame_error hflush) ⟨_, rfl, rfl⟩ (.inr ⟨_, rfl, ha, rfl⟩)
  | transferEvictFailed _ ha hflush _ => exact .flushBody hflush ⟨_, rfl, rfl⟩ (.inr ⟨_, rfl, ha, rfl⟩)

/-! ### Responses -/

/-- What a response tells of the command that gave it. -/
structure Answers (i : Instr) (s s' : State) (r : Response) : Prop where
  declined : r.status = .stall ∨ r.status = .none ∨ r.status = .stale ∨ r.status = .illegal → s' = s ∧ r.data = []
  rejected : r.status = .reject → s' = s ∨ ∃ c k, i = .transferContext c k
  detail : r.status = .ok ∨ r.status = .none ∨ r.status = .stale → r.detail = 0
  not_fatal : r.status ≠ .fatal

theorem answers_ok (i : Instr) (s s' : State) (data : List Word) : Answers i s s' (.ok data) :=
  ⟨(by rintro (h | h | h | h) <;> cases h), nofun, fun _ => rfl, nofun⟩

theorem Performed.answers {i : Instr} {s s' : State} {r : Response} (h : Performed s i s' r) : Answers i s s' r := by
  cases h with
  | declined h =>
    obtain ⟨hstatus, hdata, hdetail⟩ := h
    refine ⟨fun _ => ⟨rfl, hdata⟩, fun _ => .inl rfl, fun h => hdetail (h.resolve_left fun hok => ?_), fun hfatal => ?_⟩
    · obtain h | h | h | h := hstatus <;> cases hok.symm.trans h
    · obtain h | h | h | h := hstatus <;> cases hfatal.symm.trans h
  | addRejected _ _ _ => exact ⟨(by rintro (h | h | h | h) <;> cases h), fun _ => .inl rfl, (by rintro (h | h | h) <;> cases h), nofun⟩
  | transferRejected _ _ _ _ _ _ =>
    exact ⟨(by rintro (h | h | h | h) <;> cases h), fun _ => .inr ⟨_, _, rfl⟩, (by rintro (h | h | h) <;> cases h), nofun⟩
  | _ => exact answers_ok _ _ _ _

/-- Settles O8: the latch first, then the ways a command can end. -/
theorem everyCommandAnswers : Obligations.EveryCommandAnswers := by
  intro i s
  by_cases hi : i = .fatalStatus
  · subst hi
    exact ⟨_, _, exec_fatalStatus s, rfl, (by rintro (h | h | h | h) <;> cases h), nofun, fun _ => rfl, fun h => absurd rfl h⟩
  · obtain ⟨t, ht⟩ := exec_next i s
    cases hl : s.latch.set with
    | true =>
      refine ⟨_, _, exec_latched hi hl, rfl, (by rintro (h | h | h | h) <;> cases h), nofun,
        (by rintro (h | h | h) <;> cases h), fun _ => ⟨fun _ => hl, fun _ => rfl⟩⟩
    | false =>
      obtain ⟨s', r, h, rfl⟩ | ⟨s', d, _, rfl⟩ := exec_cases hl ht
      · obtain ⟨hdeclined, hrejected, hdetail, hfatal⟩ := h.answers
        have hlatch : s'.latch.set = false := (congrArg FatalLatch.set h.within.latch).trans hl
        refine ⟨_, r, ht, rfl, fun hr => ⟨?_, (hdeclined hr).2⟩, fun hr => (hrejected hr).imp_left fun e => ?_, hdetail,
          fun _ => ⟨fun hr => absurd hr hfatal, fun hset => ?_⟩⟩
        · rw [(hdeclined hr).1]
        · rw [e]
        · rw [State.answer_latch, hlatch] at hset
          cases hset
      · exact ⟨_, _, ht, rfl, (by rintro (h | h | h | h) <;> cases h), nofun, (by rintro (h | h | h) <;> cases h),
          fun _ => ⟨fun _ => rfl, fun _ => rfl⟩⟩

/-! ### Every step -/

/-- A command, its latch clear or set, keeps the parameters, the memory's form and the events. -/
theorem exec_keeps {i : Instr} {s t : State} (h : exec i s = .next t) :
    t.cfg = s.cfg ∧ (s.env.mem.wf = true → t.env.mem.wf = true) ∧ s.trace <+: t.trace := by
  cases hl : s.latch.set with
  | true =>
    by_cases hi : i = .fatalStatus
    · subst hi
      cases h
      exact ⟨rfl, id, List.prefix_rfl⟩
    · cases (exec_latched hi hl).symm.trans h
      exact ⟨rfl, id, List.prefix_rfl⟩
  | false =>
    obtain ⟨s', r, hp, rfl⟩ | ⟨s', d, hr, rfl⟩ := exec_cases hl h
    · exact ⟨hp.within.cfg, hp.within.mem, hp.within.trace⟩
    · exact ⟨hr.within.cfg, hr.within.mem, hr.within.trace⟩

theorem rejectHeader_keeps (e : DecodeError) (s : State) :
    (rejectHeader e s).cfg = s.cfg ∧ (rejectHeader e s).env = s.env ∧ (rejectHeader e s).trace = s.trace := by
  unfold rejectHeader
  split <;> exact ⟨rfl, rfl, rfl⟩

/-- Settles O12: by the five kinds of step. -/
theorem configurationAndMemoryFormKept : Obligations.ConfigurationAndMemoryFormKept := by
  intro s t h
  obtain ⟨_, rfl⟩ | ⟨_, w, rest, _, _, _, hexec⟩ | ⟨_, w, rest, e, _, _, rfl⟩ | ⟨_, _, rfl⟩ | ⟨_, _, _, _, rfl⟩ := step_cases s t h
  case inl => exact ⟨rfl, id⟩
  case inr.inl =>
    obtain ⟨hcfg, hmem, _⟩ := exec_keeps hexec
    exact ⟨hcfg, hmem⟩
  case inr.inr.inl =>
    obtain ⟨hcfg, henv, _⟩ := rejectHeader_keeps e (s.accept rest w)
    exact ⟨hcfg, fun hwf => by rw [henv]; exact hwf⟩
  case inr.inr.inr.inl => exact ⟨rfl, id⟩
  case inr.inr.inr.inr => exact ⟨rfl, Memory.wf_writeBytes _ _ _⟩

/-- Settles O15: of the five kinds of step only the reset input empties the trace. -/
theorem traceOnlyGrows : Obligations.TraceOnlyGrows := by
  intro s t h hreset
  obtain ⟨_, rfl⟩ | ⟨_, w, rest, _, _, _, hexec⟩ | ⟨_, w, rest, e, _, _, rfl⟩ | ⟨rest, hport, _⟩ | ⟨_, _, _, _, rfl⟩ :=
    step_cases s t h
  case inl => exact List.prefix_rfl
  case inr.inl => exact (exec_keeps hexec).2.2
  case inr.inr.inl =>
    obtain ⟨_, _, htrace⟩ := rejectHeader_keeps e (s.accept rest w)
    rw [htrace]
    exact List.prefix_rfl
  case inr.inr.inr.inl => exact absurd hport (hreset rest)
  case inr.inr.inr.inr => exact List.prefix_rfl

theorem Defect.code_range (d : Defect) : 1 ≤ d.code.toNat ∧ d.code.toNat ≤ 12 := by
  cases d <;> decide

/-- Settles O14: a command that sets the latch raised a defect, and the header of a decoded command is the instruction's. -/
theorem defectLatchesHeaderAndCycle : Obligations.DefectLatchesHeaderAndCycle := by
  intro s t c w rest hl hport hstep hset
  cases hdecode : decode c with
  | error e =>
    cases (step_rejected s c w rest e hport hdecode).symm.trans hstep
    rw [rejectHeader_latch (s := s.accept rest w)] at hset
    cases hl.symm.trans hset
  | ok i =>
    rw [step_command s c w rest i hport hdecode] at hstep
    obtain ⟨s', r, h, rfl⟩ | ⟨s', d, h, rfl⟩ := exec_cases (s := s.accept rest w) hl hstep
    · have hlatch : s'.latch.set = s.latch.set := congrArg FatalLatch.set h.within.latch
      rw [State.answer_latch, hlatch, hl] at hset
      cases hset
    · obtain ⟨hheader, _⟩ := decodedHeaderAndLanes c i hdecode
      have hnow : s'.now = w := h.within.now
      exact ⟨d, by rw [State.raiseFatal_latch, hheader, hnow], rfl, d.code_range.1, d.code_range.2, h.within.trace⟩

/-- Settles O16: the reach of a command. -/
theorem otherContextsAndCoresUntouched : Obligations.OtherContextsAndCoresUntouched := by
  intro i s t h hl
  obtain ⟨s', r, hp, rfl⟩ := exec_performed h hl
  refine ⟨fun j hj => hp.within.ctx j ?_, fun k hk hk' => hp.within.core k ?_⟩
  · rintro ⟨c, hc, hcj⟩
    exact hj c hc hcj
  · rintro (⟨k', hmem, heq⟩ | ⟨c, hmem, ha, heq⟩)
    · exact hk k' hmem heq
    · exact hk' c hmem ha heq

/-- Settles O17: DISPATCH increments the generation of the slots it appends at, and no other command changes one. -/
theorem generationsNeverDecrease : Obligations.GenerationsNeverDecrease := by
  intro i s t h hl c b n
  obtain ⟨s', r, hp, rfl⟩ := exec_performed h hl
  exact ⟨hp.within.genLe c b n, fun hi => hp.within.gen hi c b n⟩

/-! ### Attachment -/

theorem Defect.code_injective : ∀ {d d' : Defect}, d.code = d'.code → d = d' := by
  intro d d'
  cases d <;> cases d' <;> decide

theorem Defect.ofSquash_ne_attachment {d : Defect} (h : d.ofSquash) : d ≠ .notAttached ∧ d ≠ .alreadyAttached := by
  constructor <;> rintro rfl <;> exact h

/-- Every way of raising a defect but the two attachment checks raises another one. -/
theorem Raised.attachment {i : Instr} {s s' : State} {d : Defect} (h : Raised s i s' d) :
    (d = .notAttached → needsAttached i = true ∧ IdsExist i s ∧ ∃ c, usesCtx i = some c ∧ (s.ctx c.toNat).attached = false)
      ∧ (d = .alreadyAttached → ∃ c k, i = .addContext c k ∧ IdsExist i s ∧ (s.ctx c.toNat).attached = true) := by
  have hother : ∀ {P Q : Prop}, d ≠ .notAttached ∧ d ≠ .alreadyAttached →
      (d = .notAttached → P) ∧ (d = .alreadyAttached → Q) :=
    fun h => ⟨fun e => absurd e h.1, fun e => absurd e h.2⟩
  cases h with
  | notAttached hid huses hneeds ha => exact ⟨fun _ => ⟨hneeds, hid, _, huses, ha⟩, nofun⟩
  | alreadyAttached hid ha => exact ⟨nofun, fun _ => ⟨_, _, rfl, hid, ha⟩⟩
  | atOnce hd _ => exact hother hd
  | rollbackFailed _ _ hsquash => exact hother (Defect.ofSquash_ne_attachment (squashMany_defect hsquash))
  | flushFailed _ _ hflush => exact hother (Defect.ofSquash_ne_attachment (flushBody_defect hflush))
  | transferFlushFailed _ _ hflush => exact hother (Defect.ofSquash_ne_attachment (flushBody_defect hflush))
  | transferEvictFailed _ _ _ hevict => exact hother (evictDefect_ne_attachment hevict)

theorem exec_addContext_attached {s : State} {c k : BitVec 8} (hl : s.latch.set = false) (hc : c.toNat < s.cfg.numContexts)
    (hk : k.toNat < s.cfg.numCores) (ha : (s.ctx c.toNat).attached = true) :
    exec (.addContext c k) s = .next (s.raiseFatal .alreadyAttached (Instr.addContext c k).header) := by
  simp only [exec, execAddContext]
  rw [checkCtx_pass c s _ hc, checkCore_pass k s _ hk, if_pos ha]
  exact perform_fatal _ s _ _ hl

/-- Settles O22: the checks raise the two defects, and a FATAL answer comes from a raised defect. -/
theorem attachmentIsChecked : Obligations.AttachmentIsChecked := by
  refine ⟨fun i s c hl hid huses hneeds ha => ⟨_, exec_of_not_attached hl hid huses hneeds ha, latched_raiseFatal s _ i⟩,
    fun s c k hl hc hk ha => ⟨_, exec_addContext_attached hl hc hk ha, latched_raiseFatal s _ _⟩, fun i s t hl h => ?_⟩
  obtain ⟨s', r, hp, rfl⟩ | ⟨s', d, hr, rfl⟩ := exec_cases hl h
  · have hfatal : ∀ code, (s'.answer r).response ≠ some (.fatal code) := fun code e =>
      hp.answers.not_fatal (congrArg Response.status (Option.some.inj e))
    exact ⟨fun e => absurd e (hfatal _), fun e => absurd e (hfatal _)⟩
  · have hcode : ∀ d', (s'.raiseFatal d i.header).response = some (.fatal d'.code) → d = d' := fun d' e =>
      Defect.code_injective (congrArg Response.detail (Option.some.inj e))
    exact ⟨fun e => hr.attachment.1 (hcode _ e), fun e => hr.attachment.2 (hcode _ e)⟩

end Sys2Proof.Machine

/-! PROOFS. The transitions of register ownership (10_state.md R33), and which commands reach memory and trace
(20_memory.md sections 1 and 4). -/

namespace Sys2Proof.Machine

open Sys2Proof.Safety

/-! ### Ownership -/

/-- Every register whose ownership differs has made one of the moves `l`. -/
abbrev Moves (l : List (RegState × RegState)) (s t : State) : Prop :=
  ∀ k b p, (t.reg k b p).state ≠ (s.reg k b p).state → ((s.reg k b p).state, (t.reg k b p).state) ∈ l

section Moves

variable {s t : State} {c k : Nat}

theorem moves_of_sameRegs {l : List (RegState × RegState)} (h : SameRegs s t) : Moves l s t :=
  fun k b p hne => absurd (congrArg PhysReg.state (h k b p)) hne

theorem squash_moves (h : SquashFrame c s t) : Moves [(.alloc, .free)] s t := by
  intro k b p hne
  obtain hsame | ⟨halloc, hfree⟩ := h.reg k b p
  · exact absurd (congrArg PhysReg.state hsame) hne
  · rw [halloc, hfree]
    exact List.mem_singleton_self _

theorem flushFinish_reg (c n : Nat) (pc : Word) (s : State) (k : Nat) (b : Bank) (p : Nat) :
    (flushFinish c n pc s).reg k b p = s.reg k b p := rfl

theorem flushBody_moves (h : flushBody c s = .ok t) : Moves [(.alloc, .free)] s t := by
  obtain ⟨s1, hsquash, _, rfl⟩ := flushBody_ok c s t h
  exact fun k b p => squash_moves (squashMany_frame_ok hsquash) k b p

theorem evict_moves (h : evict c s = .ok t) : Moves [(.architected, .free)] s t := by
  intro k b p hne
  have hreg := (evictedFrom_of_ok h).reg k b p
  obtain ⟨hchecks, _⟩ := evict_ok c s t h
  obtain ⟨_, _, _, hregs⟩ := (evictDefect_none c s).mp hchecks
  split at hreg
  · obtain ⟨rfl, htarget⟩ := ‹_ ∧ _›
    obtain ⟨a, ha, heq⟩ := List.any_eq_true.mp htarget
    obtain ⟨rfl, rfl⟩ : bankOf a = b ∧ (s.ctx c).renameOf a = p := by simpa using heq
    rw [hreg, (hregs a (List.mem_range.mp ha)).1]
    exact List.mem_singleton_self _
  · exact absurd (congrArg PhysReg.state hreg) hne

theorem admitTo_moves (h : admitTo c k s = .ok t) : Moves [(.free, .architected)] s t := by
  obtain ⟨n, _, _, _, hspec⟩ := admitTo_ok h
  obtain ⟨_, _, _, _, _, _, _, _, _, _, hreg⟩ := hspec.admitted
  intro j b p hne
  by_cases hj : j = k
  · subst hj
    have hreg := hreg b p
    split at hreg
    · obtain ⟨_, hfree⟩ := mem_freeList.mp (List.mem_of_mem_take (List.contains_iff_mem.mp ‹_›))
      rw [hreg, hfree]
      exact List.mem_singleton_self _
    · exact absurd (congrArg PhysReg.state hreg) hne
  · exact absurd (by rw [State.reg, hspec.core_ne j hj]; rfl) hne

theorem dispatchWrite_moves (s : State) (c : BitVec 8) (p : DispatchWords) :
    Moves [(.free, .alloc)] s (dispatchWrite c.toNat (classify s.cfg p.opcode) p s) := by
  intro k b r hne
  rw [dispatchWrite_reg, takes_eq_destOf] at hne ⊢
  split at hne
  · rename_i hr
    obtain ⟨rfl, rfl, hr⟩ := hr
    rw [if_pos ⟨rfl, rfl, hr⟩]
    unfold destOf at hr
    split at hr
    · cases hr
    · obtain ⟨d, hd, rfl⟩ := Option.map_eq_some_iff.mp hr
      obtain ⟨q, hq, rfl⟩ := Option.map_eq_some_iff.mp hd
      obtain ⟨_, hfree, _⟩ := (State.findFree_some _ _ _ _).mp hq
      rw [(State.isFree_eq_true_iff _ _ _ _).mp hfree]
      exact List.mem_singleton_self _
  · exact absurd rfl hne

theorem commit_moves {e : Entry} (h : commitReg k e s = .ok t) :
    Moves [(.alloc, .architected), (.architected, .free)] s (retireHead c e t) := by
  intro j b p hne
  rw [retireHead_reg] at hne ⊢
  have hreg := (commitReg_spec h).2 j b p
  obtain ⟨_, rfl⟩ | ⟨q, old, hq, hold, halloc, harch, _⟩ := commitReg_ok k e s t h
  · exact absurd rfl hne
  · split at hreg
    · obtain ⟨rfl, rfl, hp⟩ := ‹_ ∧ _›
      cases hq.symm.trans hp
      rw [hreg, halloc]
      exact List.mem_cons_self
    · split at hreg
      · obtain ⟨rfl, rfl, _, hp⟩ := ‹_ ∧ _›
        cases hold.symm.trans hp
        rw [hreg, harch]
        exact List.mem_cons_of_mem _ List.mem_cons_self
      · exact absurd (congrArg PhysReg.state hreg) hne

theorem afterRollback_reg (c n j : Nat) (m : Bool) (s : State) (k : Nat) (b : Bank) (p : Nat) :
    (afterRollback c n m j s).reg k b p = s.reg k b p := by cases m <;> rfl

theorem releaseIqSlot_reg (c : Nat) (b : Buf) (i : Nat) (s : State) (k : Nat) (b' : Bank) (p : Nat) :
    (releaseIqSlot c b i s).reg k b' p = s.reg k b' p := by
  obtain ⟨_, h⟩ | ⟨_, h⟩ := releaseIqSlot_cases c b i s
  · rw [h]
  · rw [h]
    exact State.reg_updCore (f := fun x => { x with iqCount := x.iqCount - 1 }) (fun b => by cases b <;> rfl) k b' p

/-- A register that a transfer has changed went to FREE by the flush or the eviction, or out of it by the admission. -/
theorem transfer_moves {s1 s2 s3 : State} (hflush : Moves [(.alloc, .free)] s s1) (hevict : Moves [(.architected, .free)] s1 s2)
    (hadmit : Moves [(.free, .architected)] s2 s3) :
    Moves [(.alloc, .free), (.architected, .free), (.free, .architected), (.alloc, .architected)] s s3 := by
  intro k b p
  have h1 := or_iff_not_imp_left.mpr (hflush k b p)
  have h2 := or_iff_not_imp_left.mpr (hevict k b p)
  have h3 := or_iff_not_imp_left.mpr (hadmit k b p)
  generalize (s.reg k b p).state = r at *
  generalize (s1.reg k b p).state = r1 at *
  generalize (s2.reg k b p).state = r2 at *
  generalize (s3.reg k b p).state = r3 at *
  simp only [List.mem_cons, List.not_mem_nil, or_false, Prod.mk.injEq] at h1 h2 h3 ⊢
  obtain rfl | ⟨rfl, rfl⟩ := h1
  · obtain rfl | ⟨rfl, rfl⟩ := h2
    · exact fun hne => .inr (.inr (.inl (h3.resolve_left hne)))
    · obtain rfl | ⟨_, rfl⟩ := h3
      · exact fun _ => .inr (.inl ⟨rfl, rfl⟩)
      · exact fun hne => absurd rfl hne
  · obtain rfl | ⟨h, _⟩ := h2
    · obtain rfl | ⟨_, rfl⟩ := h3
      · exact fun _ => .inl ⟨rfl, rfl⟩
      · exact fun _ => .inr (.inr (.inr ⟨rfl, rfl⟩))
    · cases h

end Moves

theorem Performed.moves {i : Instr} {s s' : State} {r : Response} (h : Performed s i s' r) : Moves (ownershipMoves i) s s' := by
  cases h with
  | dispatched _ => exact dispatchWrite_moves s _ _
  | committed _ _ _ _ _ hreg => exact commit_moves hreg
  | rolledBack _ _ hsquash =>
    intro k b p
    rw [afterRollback_reg]
    exact squash_moves (squashMany_frame_ok hsquash) k b p
  | flushed _ _ hflush => exact flushBody_moves hflush
  | added _ _ _ hadmit => exact admitTo_moves hadmit
  | ejected _ _ hevict => exact evict_moves hevict
  | transferred _ _ _ hflush hevict hadmit =>
    exact transfer_moves (flushBody_moves hflush) (evict_moves hevict) (admitTo_moves hadmit)
  | transferRejected _ _ _ hflush hevict _ =>
    exact transfer_moves (flushBody_moves hflush) (evict_moves hevict) (moves_of_sameRegs fun _ _ _ => rfl)
  | @setReady k q b index ready spec hk halloc =>
    intro j b' p hne
    rw [State.reg_setReg] at hne
    split at hne
    · obtain ⟨rfl, rfl, rfl⟩ := ‹_ ∧ _›
      exact absurd rfl hne
    · exact absurd rfl hne
  | issued _ _ _ => exact moves_of_sameRegs (releaseIqSlot_reg _ _ _ _)
  | inserted _ _ _ _ => exact moves_of_sameRegs (State.setWq_reg _ _ _ _)
  | popped _ _ => exact moves_of_sameRegs (State.setWq_reg _ _ _ _)
  | removed _ _ => exact moves_of_sameRegs (State.setWq_reg _ _ _ _)
  | _ => exact moves_of_sameRegs fun _ _ _ => rfl

/-- Settles O19: by the ways a command can end. -/
theorem ownershipMovesAreLegal : Obligations.OwnershipMovesAreLegal := by
  intro i s t h hl k b p hne
  obtain ⟨s', r, hp, rfl⟩ := exec_performed h hl
  exact hp.moves k b p hne

/-! ### Memory and trace -/

/-- A command that squashes: it reaches memory and trace. -/
def Squashes : Instr → Prop
  | .rollbackTo _ _ _ _ => True
  | .flushContext _ => True
  | .transferContext _ _ => True
  | _ => False

theorem Performed.memory {i : Instr} {s s' : State} {r : Response} (h : Performed s i s' r) (hi : ¬ Squashes i) :
    s'.env.mem = s.env.mem ∧ s'.trace = s.trace := by
  have hmem : ∀ {t : State}, SameAround s t → t.env.mem = s.env.mem ∧ t.trace = s.trace := by
    rintro t ⟨_, _, htrace, henv, _⟩
    exact ⟨congrArg Environment.mem henv, htrace⟩
  cases h with
  | dispatched _ =>
    obtain ⟨_, _, htrace, _, _, henv⟩ := dispatchWrite_around _ _ _ s
    exact ⟨by rw [henv], htrace⟩
  | issued _ _ _ => exact hmem (releaseIqSlot_around _ _ _ _)
  | committed _ _ _ _ _ hreg =>
    exact hmem (SameAround.trans (commitReg_spec hreg).1.around (retireHead_around _ _ _))
  | rolledBack _ _ _ => exact absurd trivial hi
  | flushed _ _ _ => exact absurd trivial hi
  | transferred _ _ _ _ _ _ => exact absurd trivial hi
  | transferRejected _ _ _ _ _ _ => exact absurd trivial hi
  | added _ _ _ hadmit =>
    obtain ⟨_, _, _, _, hspec⟩ := admitTo_ok hadmit
    exact hmem hspec.around
  | ejected _ _ hevict => exact hmem (evictedFrom_of_ok hevict).around
  | _ => exact ⟨rfl, rfl⟩

theorem Raised.memory {i : Instr} {s s' : State} {d : Defect} (h : Raised s i s' d) (hi : ¬ Squashes i) : s' = s := by
  cases h with
  | notAttached _ _ _ _ => rfl
  | alreadyAttached _ _ => rfl
  | atOnce _ _ => rfl
  | rollbackFailed _ _ _ => exact absurd trivial hi
  | flushFailed _ _ _ => exact absurd trivial hi
  | transferFlushFailed _ _ _ => exact absurd trivial hi
  | transferEvictFailed _ _ _ _ => exact absurd trivial hi

/-- A command that does not squash leaves memory and trace alone, in a defect too. -/
theorem exec_keeps_memory {i : Instr} {s t : State} (hi : ¬ Squashes i) (h : exec i s = .next t) :
    t.env.mem = s.env.mem ∧ t.trace = s.trace := by
  cases hl : s.latch.set with
  | true =>
    by_cases hstatus : i = .fatalStatus
    · subst hstatus
      cases h
      exact ⟨rfl, rfl⟩
    · cases (exec_latched hstatus hl).symm.trans h
      exact ⟨rfl, rfl⟩
  | false =>
    obtain ⟨s', r, hp, rfl⟩ | ⟨s', d, hr, rfl⟩ := exec_cases hl h
    · exact hp.memory hi
    · obtain rfl := hr.memory hi
      exact ⟨rfl, rfl⟩

end Sys2Proof.Machine

/-! PROOFS. Circular buffers (10_state.md R37, R38, R42, R47): the live slots, and what the ring operations do to them. -/

namespace Sys2Proof.Machine

open Sys2Proof.Safety

/-! ### The live slots -/

@[simp] theorem liveSlots_length (r : Ring) : (liveSlots r).length = r.num := by simp [liveSlots]

@[simp] theorem liveEntries_length (x : Context) (b : Buf) : (liveEntries x b).length = (x.ring b).num := by
  simp [liveEntries]

theorem mem_liveSlots {r : Ring} {i : Nat} : i ∈ liveSlots r ↔ ∃ j < r.num, (r.head + j) % r.cap = i := by
  simp [liveSlots]

theorem liveSlots_of_num_eq_zero {r : Ring} (h : r.num = 0) : liveSlots r = [] := by simp [liveSlots, h]

/-- Within one turn of the buffer two slots at different distances differ. -/
theorem Ring.slot_injective {r : Ring} {j j' : Nat} (h : (r.head + j) % r.cap = (r.head + j') % r.cap) (hj : j < r.cap)
    (hj' : j' < r.cap) : j = j' := by
  have hmod : j % r.cap = j' % r.cap := (Nat.ModEq.add_left_cancel' r.head h :)
  rwa [Nat.mod_eq_of_lt hj, Nat.mod_eq_of_lt hj'] at hmod

section Ring

variable {r : Ring} (h : RingOk r)

include h

theorem liveSlots_nodup : (liveSlots r).Nodup := by
  obtain ⟨hcap, _, _⟩ := h
  refine List.Nodup.map_on (fun j hj j' hj' heq => ?_) List.nodup_range
  rw [List.mem_range] at hj hj'
  exact Ring.slot_injective heq (by omega) (by omega)

/-- The distance of a live slot from the head is its position among the live slots. -/
theorem Ring.pos_slot {j : Nat} (hj : j < r.num) : r.pos ((r.head + j) % r.cap) = j := by
  obtain ⟨hcap, hhead, _⟩ := h
  have hlt : r.head < r.cap := by omega
  rw [Ring.pos, Nat.mod_eq_of_lt hlt]
  obtain hsmall | hlarge := Nat.lt_or_ge (r.head + j) r.cap
  · rw [Nat.mod_eq_of_lt hsmall, show r.head + j + (r.cap - r.head) = j + r.cap by omega, Nat.add_mod_right,
      Nat.mod_eq_of_lt (by omega)]
  · rw [Nat.mod_eq_sub_mod hlarge, Nat.mod_eq_of_lt (a := r.head + j - r.cap) (by omega),
      show r.head + j - r.cap + (r.cap - r.head) = j by omega, Nat.mod_eq_of_lt (by omega)]

/-- A slot stands at its distance from the head. -/
theorem Ring.slot_pos {i : Nat} (hi : i < r.cap) : (r.head + r.pos i) % r.cap = i := by
  obtain ⟨_, hhead, _⟩ := h
  have hlt : r.head < r.cap := by omega
  rw [Ring.pos, Nat.mod_eq_of_lt hlt, Nat.add_mod_mod, show r.head + (i + (r.cap - r.head)) = i + r.cap by omega,
    Nat.add_mod_right, Nat.mod_eq_of_lt hi]

/-- The live window is the live slots (10_state.md R42). -/
theorem Ring.isLive_iff {i : Nat} : r.isLive i = true ↔ i ∈ liveSlots r := by
  rw [mem_liveSlots]
  simp only [Ring.isLive, Bool.and_eq_true, decide_eq_true_eq]
  constructor
  · exact fun ⟨hi, hpos⟩ => ⟨r.pos i, hpos, Ring.slot_pos h hi⟩
  · rintro ⟨j, hj, rfl⟩
    rw [Ring.pos_slot h hj]
    exact ⟨Nat.mod_lt _ (by have := h.1; omega), hj⟩

theorem Ring.slot_of_live {i : Nat} (hi : r.pos i < r.num) (hcap : i < r.cap) : (liveSlots r)[r.pos i]? = some i := by
  simp [liveSlots, hi, Ring.slot_pos h hcap]

/-! #### Appending at the tail -/

theorem ringOk_pushTail (hroom : r.num ≠ r.cap) : RingOk r.pushTail := by
  obtain ⟨hcap, hhead, htail⟩ := h
  have : r.num < r.cap := by omega
  refine ⟨by simp only [Ring.pushTail_num, Ring.pushTail_cap]; omega, hhead, ?_⟩
  simp only [Ring.pushTail_tail, Ring.pushTail_cap, Ring.pushTail_head, Ring.pushTail_num, htail, Nat.mod_add_mod, Nat.add_assoc]

theorem liveSlots_pushTail : liveSlots r.pushTail = liveSlots r ++ [r.tail] := by
  obtain ⟨_, _, htail⟩ := h
  simp [liveSlots, List.range_succ, htail]

theorem tail_not_mem_liveSlots (hroom : r.num ≠ r.cap) : r.tail ∉ liveSlots r := by
  obtain ⟨hcap, _, htail⟩ := h
  rw [mem_liveSlots]
  rintro ⟨j, hj, heq⟩
  have := Ring.slot_injective (heq.trans htail) (by omega) (by omega)
  omega

/-! #### Removing at the head -/

theorem ringOk_popHead (hnum : r.num ≠ 0) : RingOk r.popHead := by
  obtain ⟨hcap, hhead, htail⟩ := h
  refine ⟨?_, .inl ?_, ?_⟩
  · simp only [Ring.popHead_num, Ring.popHead_cap]
    omega
  · exact Nat.mod_lt _ (by omega)
  · simp only [Ring.popHead_tail, Ring.popHead_cap, Ring.popHead_head, Ring.popHead_num, htail, Nat.mod_add_mod]
    congr 1
    omega

theorem liveSlots_eq_head_cons (hnum : r.num ≠ 0) : liveSlots r = r.head :: liveSlots r.popHead := by
  obtain ⟨hcap, hhead, _⟩ := h
  obtain ⟨n, hn⟩ := Nat.exists_eq_succ_of_ne_zero hnum
  have hlt : r.head < r.cap := by omega
  simp only [liveSlots, hn, List.range_succ_eq_map, List.map_cons, List.map_map, Nat.add_zero, Nat.mod_eq_of_lt hlt,
    Ring.popHead_num, Ring.popHead_head, Ring.popHead_cap, Nat.succ_sub_one, List.cons.injEq, true_and]
  refine List.map_congr_left fun j _ => ?_
  simp only [Function.comp, Nat.mod_add_mod]
  congr 1
  omega

/-! #### Removing at the tail -/

theorem Ring.last_eq (hnum : r.num ≠ 0) : r.last = (r.head + (r.num - 1)) % r.cap := by
  obtain ⟨hcap, _, htail⟩ := h
  rw [Ring.last, htail, Nat.mod_add_mod, show r.head + r.num + (r.cap - 1) = r.head + (r.num - 1) + r.cap by omega,
    Nat.add_mod_right]

theorem ringOk_popTail (hnum : r.num ≠ 0) : RingOk r.popTail := by
  have hlast := Ring.last_eq h hnum
  obtain ⟨hcap, hhead, _⟩ := h
  refine ⟨?_, hhead, hlast⟩
  simp only [Ring.popTail_num, Ring.popTail_cap]
  omega

theorem liveSlots_eq_append_last (hnum : r.num ≠ 0) : liveSlots r = liveSlots r.popTail ++ [r.last] := by
  obtain ⟨n, hn⟩ := Nat.exists_eq_succ_of_ne_zero hnum
  rw [Ring.last_eq h hnum]
  simp [liveSlots, hn, List.range_succ]

theorem last_not_mem_liveSlots_popTail (hnum : r.num ≠ 0) : r.last ∉ liveSlots r.popTail := by
  have hnodup := liveSlots_nodup h
  rw [liveSlots_eq_append_last h hnum] at hnodup
  exact fun hmem => (List.nodup_append.mp hnodup).2.2 _ hmem _ (List.mem_singleton_self _) rfl

theorem head_not_mem_liveSlots_popHead (hnum : r.num ≠ 0) : r.head ∉ liveSlots r.popHead := by
  have hnodup := liveSlots_nodup h
  rw [liveSlots_eq_head_cons h hnum] at hnodup
  exact (List.nodup_cons.mp hnodup).1

/-! #### Emptying -/

theorem ringOk_drain : RingOk r.drain := by
  obtain ⟨hcap, hhead, htail⟩ := h
  simp only [RingOk, Ring.drain_num, Ring.drain_cap, Ring.drain_head, Ring.drain_tail, Nat.add_zero, htail, Nat.mod_mod]
  refine ⟨Nat.zero_le _, ?_, trivial⟩
  obtain hhead | ⟨hzero, hhead⟩ := hhead
  · exact .inl (Nat.mod_lt _ (by omega))
  · have : r.num = 0 := by omega
    exact .inr ⟨hzero, by simp [hhead, this]⟩

end Ring

theorem ringOk_empty (cap : Nat) : RingOk ⟨0, 0, 0, cap⟩ := by
  refine ⟨Nat.zero_le _, ?_, (Nat.zero_mod _).symm⟩
  by_cases h : cap = 0
  · exact .inr ⟨h, rfl⟩
  · exact .inl (Nat.pos_of_ne_zero h)

end Sys2Proof.Machine

/-! PROOFS. One squash (43_rollback.md R260): the state it leads to, read field by field, and where it succeeds. -/

namespace Sys2Proof.Machine

open Sys2Proof.Safety

/-! ### What a squash undoes -/

/-- The youngest live ROB entry. -/
abbrev Context.youngest (x : Context) : Entry := x.entry .rob x.robRing.last

/-- The youngest live LSQ entry. -/
abbrev Context.youngestMem (x : Context) : Entry := x.entry .lsq x.lsqRing.last

/-- The store a squash of the youngest entry undoes, if it is one. -/
def Context.undoneByOne (x : Context) : List Entry :=
  if x.youngest.eaComp && x.youngestMem.isStore then [x.youngestMem] else []

/-- The context with the rename entry and the working register of the destination of `e` restored. -/
def Context.restored (x : Context) (e : Entry) : Context :=
  if e.physreg.isSome then
    { x with
      rename := (e.oldPhysreg.map (Table.put x.rename e.archreg.toNat)).getD x.rename
      wreg := Table.put x.wreg e.archreg.toNat e.shadowValue }
  else x

theorem Context.restored_of_none {x : Context} {e : Entry} (h : e.physreg = none) : x.restored e = x :=
  if_neg (by simp [h])

theorem Context.restored_of_some {x : Context} {e : Entry} {p : Nat} (h : e.physreg = some p) : x.restored e =
    { x with
      rename := (e.oldPhysreg.map (Table.put x.rename e.archreg.toNat)).getD x.rename
      wreg := Table.put x.wreg e.archreg.toNat e.shadowValue } := if_pos (by simp [h])

theorem Context.restored_renameOf (x : Context) (e : Entry) (a : Nat) : (x.restored e).renameOf a
    = if a = e.archreg.toNat ∧ e.physreg.isSome = true then e.oldPhysreg.getD (x.renameOf a) else x.renameOf a := by
  cases hp : e.physreg with
  | none => simp [Context.restored_of_none hp]
  | some p =>
    rw [Context.restored_of_some hp]
    cases hold : e.oldPhysreg with
    | none => simp [Context.renameOf]
    | some old => simp [Context.renameOf, Table.get_put]

theorem Context.restored_wregOf (x : Context) (e : Entry) (a : Nat) : (x.restored e).wregOf a
    = if a = e.archreg.toNat ∧ e.physreg.isSome = true then e.shadowValue else x.wregOf a := by
  cases hp : e.physreg with
  | none => simp [Context.restored_of_none hp]
  | some p =>
    rw [Context.restored_of_some hp]
    simp [Context.wregOf, Table.get_put]

/-- A reading of a context that neither rename table nor working registers reach. -/
theorem Context.read_restored {α : Type} (g : Context → α) (hg : ∀ (x : Context) r w, g { x with rename := r, wreg := w } = g x)
    (x : Context) (e : Entry) : g (x.restored e) = g x := by
  cases hp : e.physreg with
  | none => rw [Context.restored_of_none hp]
  | some p =>
    rw [Context.restored_of_some hp]
    exact hg _ _ _

/-! ### Replays -/

/-- The stores `u` have been undone in order, every replay accepted: memory, trace and the answers used tell so
(20_memory.md R80, R91). -/
structure Undoes (u : List Entry) (s t : State) : Prop where
  mem : t.env.mem = replayed s.env.mem u
  trace : t.trace = s.trace ++ u.map replayEvent
  draws : t.env.draws = s.env.draws.drop u.length
  drawn : t.env.drawn = s.env.drawn + u.length

theorem Undoes.refl (s : State) : Undoes [] s s := ⟨rfl, (List.append_nil _).symm, rfl, rfl⟩

theorem replayed_append (u v : List Entry) : ∀ m : Memory, replayed m (u ++ v) = replayed (replayed m u) v := by
  induction u with
  | nil => exact fun _ => rfl
  | cons l u ih => exact fun m => ih _

theorem Undoes.trans {u v : List Entry} {s t w : State} (h : Undoes u s t) (h' : Undoes v t w) : Undoes (u ++ v) s w where
  mem := by rw [h'.mem, h.mem, replayed_append]
  trace := by rw [h'.trace, h.trace, List.append_assoc, List.map_append]
  draws := by rw [h'.draws, h.draws, List.drop_drop, List.length_append]
  drawn := by rw [h'.drawn, h.drawn, List.length_append, Nat.add_assoc]

/-- What lies outside the engine is as before, for a change that makes no replay. -/
theorem Undoes.of_env {s t : State} (henv : t.env = s.env) (htrace : t.trace = s.trace) : Undoes [] s t :=
  ⟨by rw [henv]; rfl, by rw [htrace, List.map_nil, List.append_nil], by rw [henv]; rfl, by rw [henv]; rfl⟩

theorem undoes_replayWrite {l : Entry} {s : State} (h : drawFaults s.nextDraw = false) :
    Undoes [l] s (replayWrite l.memAddr l.memSize l.shadowMem s) := by
  refine ⟨?_, ?_, ?_, rfl⟩
  · simp only [replayWrite, h, Bool.false_eq_true, if_false]
    rfl
  · simp only [replayWrite, h]
    rfl
  · exact List.drop_one.symm

/-! ### Step 1: the partner -/

/-- Squash step 1, where it succeeds, of the ROB entry `e`. -/
structure PartnerPopped (c : Nat) (e : Entry) (s t : State) : Prop where
  ctx : t.ctx c = { s.ctx c with lsqRing := if e.eaComp then (s.ctx c).lsqRing.popTail else (s.ctx c).lsqRing }
  wq : ∀ k q, (t.core k).wq q
    = if k = (s.ctx c).core ∧ e.eaComp = true then dropEntry c .lsq (s.ctx c).lsqRing.last ((s.core k).wq q)
      else (s.core k).wq q
  iqCount : ∀ k, (t.core k).iqCount = (s.core k).iqCount
  reg : SameRegs s t
  partner : e.eaComp = true → (s.ctx c).lsqRing.num ≠ 0 ∧ (s.ctx c).youngestMem.seq = e.seq
  undoes : Undoes (if e.eaComp && (s.ctx c).youngestMem.isStore then [(s.ctx c).youngestMem] else []) s t

/-- The removal of the LSQ's tail after the replay, which leaves the engine alone. -/
theorem partnerPopped_of_undoes {c : Nat} {e : Entry} {s s1 : State} (he : e.eaComp = true) (heng : s1.eng = s.eng)
    (hundoes : Undoes (if (s.ctx c).youngestMem.isStore then [(s.ctx c).youngestMem] else []) s s1)
    (hpartner : (s.ctx c).lsqRing.num ≠ 0 ∧ (s.ctx c).youngestMem.seq = e.seq) :
    PartnerPopped c e s ((removeFromAllQueues (s.ctx c).core c .lsq (s.ctx c).lsqRing.last s1).updCtx c
      (fun y => { y with lsqRing := y.lsqRing.popTail })) := by
  have hctx : ∀ j, s1.ctx j = s.ctx j := fun j => congrArg (fun g : Engine => Table.get Context.reset g.contexts j) heng
  have hcore : ∀ k, s1.core k = s.core k := fun k => congrArg (fun g : Engine => Table.get Core.reset g.cores k) heng
  refine ⟨?_, fun k q => ?_, fun k => ?_, fun k b p => ?_, fun _ => hpartner, ?_⟩
  · rw [State.updCtx_ctx_same, State.removeFromAllQueues_ctx, hctx, he, if_pos rfl]
  · rw [State.updCtx_core, removeFromAllQueues_wq, hcore, hcore]
    by_cases hk : k = (s.ctx c).core
    · subst hk
      simp [he]
    · simp [hk]
  · rw [State.updCtx_core, removeFromAllQueues_iqCount, hcore]
  · rw [State.reg_updCtx, State.reg_removeFromAllQueues, State.reg, hcore]
    rfl
  · rw [he, Bool.true_and]
    exact ⟨hundoes.mem, hundoes.trace, hundoes.draws, hundoes.drawn⟩

theorem squashPartner_spec {c : Nat} {e : Entry} {s t : State} (h : squashPartner c e s = .ok t) : PartnerPopped c e s t := by
  obtain ⟨he, rfl⟩ | ⟨he, hnum, hseq, haccepts, rfl⟩ := squashPartner_ok c e s t h
  · exact ⟨by simp [he], fun k q => by simp [he], fun _ => rfl, fun _ _ _ => rfl, by simp [he], by simpa [he] using Undoes.refl t⟩
  · refine partnerPopped_of_undoes he ?_ ?_ ⟨hnum, hseq⟩
    · split <;> rfl
    · cases hstore : (s.ctx c).youngestMem.isStore with
      | false => exact Undoes.refl s
      | true => exact undoes_replayWrite (haccepts hstore)

/-! ### Step 3: the issue-queue slot -/

/-- The context with the issue-queue slot of an entry given up, if it holds one. -/
def Context.released (x : Context) (b : Buf) (i : Nat) : Context :=
  if (x.entry b i).inIq then { x.setEntry b i { x.entry b i with inIq := false } with icount := x.icount - 1 } else x

theorem releaseIqSlot_ctx_same (c : Nat) (b : Buf) (i : Nat) (s : State) :
    (releaseIqSlot c b i s).ctx c = (s.ctx c).released b i := by
  obtain ⟨hiq, h⟩ | ⟨hiq, h⟩ := releaseIqSlot_cases c b i s
  · rw [h, Context.released, if_neg (by simp [hiq])]
  · rw [h, State.updCtx_ctx_same, Context.released, if_pos hiq]
    rfl

theorem Context.released_entry (x : Context) (b : Buf) (i : Nat) (b' : Buf) (j : Nat) (h : ¬(b' = b ∧ j = i)) :
    (x.released b i).entry b' j = x.entry b' j := by
  unfold Context.released
  split
  · exact (Context.entry_setEntry x b i _ b' j).trans (if_neg h)
  · rfl

theorem Context.released_icount (x : Context) (b : Buf) (i : Nat) :
    (x.released b i).icount = x.icount - if (x.entry b i).inIq then 1 else 0 := by
  unfold Context.released
  split <;> rfl

/-- A reading of a context that neither its entries nor `icount` reach. -/
theorem Context.read_released {α : Type} (g : Context → α)
    (hg : ∀ (x : Context) r l n, g { x with rob := r, lsq := l, icount := n } = g x) (x : Context) (b : Buf) (i : Nat) :
    g (x.released b i) = g x := by
  unfold Context.released
  split
  · cases b <;> exact hg x _ _ _
  · rfl

theorem releaseIqSlot_wq (c : Nat) (b : Buf) (i : Nat) (s : State) (k : Nat) (q : Queue) :
    ((releaseIqSlot c b i s).core k).wq q = (s.core k).wq q := by
  have hrest := releaseIqSlot_core_rest c b i s k
  calc ((releaseIqSlot c b i s).core k).wq q
      = ({ (releaseIqSlot c b i s).core k with iqCount := (s.core k).iqCount } : Core).wq q := by cases q <;> rfl
    _ = (s.core k).wq q := by rw [hrest]

/-! ### Step 4: the destination -/

/-- Squash step 4, where it succeeds, of the ROB entry `e`. -/
structure DestRestored (c : Nat) (e : Entry) (s t : State) : Prop where
  ctx : t.ctx c = (s.ctx c).restored e
  wq : ∀ k q, (t.core k).wq q = (s.core k).wq q
  iqCount : ∀ k, (t.core k).iqCount = (s.core k).iqCount
  reg : ∀ k b p, t.reg k b p
    = if k = (s.ctx c).core ∧ e.physreg = some p ∧ bankOf e.archreg.toNat = b then { s.reg k b p with state := .free }
      else s.reg k b p
  alloc : ∀ p, e.physreg = some p → (s.reg (s.ctx c).core (bankOf e.archreg.toNat) p).state = .alloc
  env : t.env = s.env
  trace : t.trace = s.trace

theorem restoreDest_spec {c : Nat} {e : Entry} {s t : State} (h : restoreDest c e s = .ok t) : DestRestored c e s t := by
  obtain ⟨hnone, rfl⟩ | ⟨p, hp, halloc, rfl⟩ := restoreDest_ok c e s t h
  · exact ⟨(Context.restored_of_none hnone).symm, fun _ _ => rfl, fun _ => rfl, fun k b p => by simp [hnone],
      fun p hp => by simp [hnone] at hp, rfl, rfl⟩
  · refine ⟨?_, State.setRegState_core_wq s _ _ _ _, State.setRegState_core_iqCount s _ _ _ _, fun k b q => ?_,
      fun q hq => ?_, rfl, rfl⟩
    · rw [State.updCtx_ctx_same, Context.restored_of_some hp]
      cases e.oldPhysreg <;> rfl
    · rw [State.reg_updCtx, State.reg_setRegState]
      by_cases hreg : k = (s.ctx c).core ∧ b = bankOf e.archreg.toNat ∧ q = p
      · obtain ⟨rfl, rfl, rfl⟩ := hreg
        simp [hp]
      · rw [if_neg hreg, if_neg fun h => hreg ⟨h.1, h.2.2.symm, (Option.some.inj (hp.symm.trans h.2.1)).symm⟩]
    · cases hp.symm.trans hq
      exact halloc

/-! ### The whole of it -/

/-- One squash of context `c` (43_rollback.md R260). -/
structure SquashedOne (c : Nat) (s t : State) : Prop where
  frame : SquashFrame c s t
  robRing : (t.ctx c).robRing = (s.ctx c).robRing.popTail
  lsqRing : (t.ctx c).lsqRing = if (s.ctx c).youngest.eaComp then (s.ctx c).lsqRing.popTail else (s.ctx c).lsqRing
  entryRob : ∀ i, i ≠ (s.ctx c).robRing.last → (t.ctx c).entry .rob i = (s.ctx c).entry .rob i
  entryLsq : ∀ i, (t.ctx c).entry .lsq i = (s.ctx c).entry .lsq i
  partner : (s.ctx c).youngest.eaComp = true →
    (s.ctx c).lsqRing.num ≠ 0 ∧ (s.ctx c).youngestMem.seq = (s.ctx c).youngest.seq
  rename : ∀ a, (t.ctx c).renameOf a
    = if a = (s.ctx c).youngest.archreg.toNat ∧ (s.ctx c).youngest.physreg.isSome = true
      then (s.ctx c).youngest.oldPhysreg.getD ((s.ctx c).renameOf a) else (s.ctx c).renameOf a
  wreg : ∀ a, (t.ctx c).wregOf a
    = if a = (s.ctx c).youngest.archreg.toNat ∧ (s.ctx c).youngest.physreg.isSome = true
      then (s.ctx c).youngest.shadowValue else (s.ctx c).wregOf a
  icount : (t.ctx c).icount = (s.ctx c).icount - if (s.ctx c).youngest.inIq then 1 else 0
  iqCount : ∀ k, (t.core k).iqCount
    = (s.core k).iqCount - if k = (s.ctx c).core then if (s.ctx c).youngest.inIq then 1 else 0 else 0
  wq : ∀ k q, (t.core k).wq q
    = if k = (s.ctx c).core then dropEntry c .rob (s.ctx c).robRing.last
        (if (s.ctx c).youngest.eaComp then dropEntry c .lsq (s.ctx c).lsqRing.last ((s.core k).wq q) else (s.core k).wq q)
      else (s.core k).wq q
  reg : ∀ k b p, t.reg k b p
    = if k = (s.ctx c).core ∧ (s.ctx c).youngest.physreg = some p ∧ bankOf (s.ctx c).youngest.archreg.toNat = b
      then { s.reg k b p with state := .free } else s.reg k b p
  alloc : ∀ p, (s.ctx c).youngest.physreg = some p →
    (s.reg (s.ctx c).core (bankOf (s.ctx c).youngest.archreg.toNat) p).state = .alloc
  undoes : Undoes (s.ctx c).undoneByOne s t

theorem squashEntry_spec {c : Nat} {s t : State} (h : squashEntry c s = .ok t) : SquashedOne c s t := by
  have hframe : SquashFrame c s t := by
    have hframe := squashEntry_frame c s
    rwa [h] at hframe
  obtain ⟨s1, s2, hpartner, hdest, rfl⟩ := squashEntry_ok c s t h
  have hp := squashPartner_spec hpartner
  have hd := restoreDest_spec hdest
  set e := (s.ctx c).youngest with he
  set i := (s.ctx c).robRing.last with hi
  set u := removeFromAllQueues (s.ctx c).core c .rob i s1 with hu
  have hx : ∀ y, (s1.ctx c).entry .rob y = (s.ctx c).entry .rob y := fun y => by rw [hp.ctx]; rfl
  have hcore : (u.ctx c).core = (s.ctx c).core := by rw [hu, State.removeFromAllQueues_ctx, hp.ctx]
  have hiq : ((u.ctx c).entry .rob i).inIq = e.inIq := congrArg Entry.inIq (hx i)
  have hctx : s2.ctx c = ((s1.ctx c).released .rob i).restored e := by
    rw [hd.ctx, releaseIqSlot_ctx_same]
    rfl
  have hcore' : ((releaseIqSlot c .rob i u).ctx c).core = (s.ctx c).core := by
    rw [releaseIqSlot_ctx_same, Context.read_released (fun x => x.core) (fun _ _ _ _ => rfl), hcore]
  have hreg : ∀ k b p, (releaseIqSlot c .rob i u).reg k b p = s.reg k b p := fun k b p => by
    rw [releaseIqSlot_reg, hu, State.reg_removeFromAllQueues, hp.reg]
  refine ⟨hframe, ?_, ?_, fun j hj => ?_, fun j => ?_, hp.partner, fun a => ?_, fun a => ?_, ?_, fun k => ?_, fun k q => ?_,
    fun k b p => ?_, fun p hphys => ?_, ?_⟩
  · rw [State.updCtx_ctx_same, hctx, Context.read_restored (fun x => x.robRing) (fun _ _ _ => rfl),
      Context.read_released (fun x => x.robRing) (fun _ _ _ _ => rfl), hp.ctx]
  · rw [State.updCtx_ctx_same, hctx]
    refine (Context.read_restored (fun x => x.lsqRing) (fun _ _ _ => rfl) _ _).trans
      ((Context.read_released (fun x => x.lsqRing) (fun _ _ _ _ => rfl) _ _ _).trans ?_)
    rw [hp.ctx]
  · rw [State.updCtx_ctx_same, hctx]
    refine (Context.read_restored (fun x => x.entry .rob j) (fun _ _ _ => rfl) _ _).trans
      ((Context.released_entry _ _ _ _ _ fun h => hj h.2).trans (hx j))
  · rw [State.updCtx_ctx_same, hctx]
    refine (Context.read_restored (fun x => x.entry .lsq j) (fun _ _ _ => rfl) _ _).trans
      ((Context.released_entry _ .rob i .lsq j nofun).trans ?_)
    rw [hp.ctx]
    rfl
  · rw [State.updCtx_ctx_same, hctx]
    refine (Context.restored_renameOf _ e a).trans ?_
    rw [Context.read_released (fun x => x.renameOf a) (fun _ _ _ _ => rfl), hp.ctx]
    rfl
  · rw [State.updCtx_ctx_same, hctx]
    refine (Context.restored_wregOf _ e a).trans ?_
    rw [Context.read_released (fun x => x.wregOf a) (fun _ _ _ _ => rfl), hp.ctx]
    rfl
  · rw [State.updCtx_ctx_same, hctx]
    refine (Context.read_restored (fun x => x.icount) (fun _ _ _ => rfl) _ _).trans ((Context.released_icount _ _ _).trans ?_)
    rw [hx, hp.ctx]
  · rw [State.updCtx_core, hd.iqCount, releaseIqSlot_iqCount, hiq, hcore, hu, removeFromAllQueues_iqCount, hp.iqCount]
  · rw [State.updCtx_core, hd.wq, releaseIqSlot_wq, hu, removeFromAllQueues_wq, hp.wq, hp.wq]
    by_cases hk : k = (s.ctx c).core
    · subst hk
      simp [hi]
    · simp [hk]
  · rw [State.reg_updCtx, hd.reg, hreg, hcore']
  · rw [← hreg, ← hcore']
    exact hd.alloc p hphys
  · obtain ⟨_, _, htrace, henv, _⟩ := releaseIqSlot_around c .rob i u
    have hafter : Undoes [] s1 s2 := .of_env (hd.env.trans henv) (hd.trace.trans htrace)
    have hall := hp.undoes.trans hafter
    rw [List.append_nil] at hall
    exact ⟨hall.mem, hall.trace, hall.draws, hall.drawn⟩

/-! ### Where a squash succeeds -/

/-- The LSQ's tail is the partner of the youngest entry, where that is a load or store. -/
abbrev Context.partnered (x : Context) : Prop :=
  x.youngest.eaComp = true → x.lsqRing.num ≠ 0 ∧ x.youngestMem.seq = x.youngest.seq

theorem squashPartner_succeeds {c : Nat} {s : State} (hpartner : (s.ctx c).partnered)
    (haccepts : (s.ctx c).undoneByOne ≠ [] → drawFaults s.nextDraw = false) :
    ∃ t, squashPartner c (s.ctx c).youngest s = .ok t := by
  cases he : (s.ctx c).youngest.eaComp with
  | false => exact ⟨s, by simp [squashPartner, he]⟩
  | true =>
    obtain ⟨hnum, hseq⟩ := hpartner he
    have hfault : ¬((s.ctx c).youngestMem.isStore = true ∧ drawFaults s.nextDraw = true) := by
      rintro ⟨hstore, hfault⟩
      rw [haccepts (by simp [Context.undoneByOne, he, hstore])] at hfault
      cases hfault
    exact ⟨_, by simp only [squashPartner, he, if_true]; rw [if_neg hnum, if_neg (not_not_intro hseq), if_neg hfault]⟩

theorem restoreDest_succeeds {c : Nat} {e : Entry} {s : State}
    (h : ∀ p, e.physreg = some p → (s.reg (s.ctx c).core (bankOf e.archreg.toNat) p).state = .alloc) :
    ∃ t, restoreDest c e s = .ok t := by
  cases hp : e.physreg with
  | none => exact ⟨s, by simp only [restoreDest, hp]⟩
  | some p => exact ⟨_, by simp only [restoreDest, hp]; rw [if_pos (h p hp)]⟩

theorem squashEntry_succeeds {c : Nat} {s : State} (hpartner : (s.ctx c).partnered)
    (haccepts : (s.ctx c).undoneByOne ≠ [] → drawFaults s.nextDraw = false)
    (halloc : ∀ p, (s.ctx c).youngest.physreg = some p →
      (s.reg (s.ctx c).core (bankOf (s.ctx c).youngest.archreg.toNat) p).state = .alloc) :
    ∃ t, squashEntry c s = .ok t := by
  obtain ⟨s1, h1⟩ := squashPartner_succeeds hpartner haccepts
  have hp := squashPartner_spec h1
  obtain ⟨s2, h2⟩ := restoreDest_succeeds (c := c) (e := (s.ctx c).youngest)
    (s := releaseIqSlot c .rob (s.ctx c).robRing.last (removeFromAllQueues (s.ctx c).core c .rob (s.ctx c).robRing.last s1))
    fun p hphys => by
      rw [releaseIqSlot_reg, State.reg_removeFromAllQueues, hp.reg, releaseIqSlot_ctx_same,
        Context.read_released (fun x => x.core) (fun _ _ _ _ => rfl), State.removeFromAllQueues_ctx, hp.ctx]
      exact halloc p hphys
  refine ⟨s2.updCtx c (fun y => { y with robRing := y.robRing.popTail }), ?_⟩
  simp only [squashEntry]
  rw [h1]
  dsimp only
  rw [h2]

/-- A replay that the memory faults stops the squash at once, nothing but the access made (43_rollback.md R260). -/
theorem squashEntry_faults {c : Nat} {l : Entry} {s : State} (hpartner : (s.ctx c).partnered)
    (hl : (s.ctx c).undoneByOne = [l]) (hfault : drawFaults s.nextDraw = true) :
    squashEntry c s = .error (.memReplayFault, replayWrite l.memAddr l.memSize l.shadowMem s) := by
  have hboth : ((s.ctx c).youngest.eaComp && (s.ctx c).youngestMem.isStore) = true := by
    by_contra hno
    rw [Context.undoneByOne, if_neg hno] at hl
    cases hl
  rw [Context.undoneByOne, if_pos hboth] at hl
  obtain ⟨he, hstore⟩ := Bool.and_eq_true_iff.mp hboth
  obtain ⟨hnum, hseq⟩ := hpartner he
  obtain rfl := List.singleton_injective hl
  have hstep : squashPartner c (s.ctx c).youngest s = .error (.memReplayFault, replayWrite (s.ctx c).youngestMem.memAddr
      (s.ctx c).youngestMem.memSize (s.ctx c).youngestMem.shadowMem s) := by
    simp only [squashPartner, he, if_true]
    rw [if_neg hnum, if_neg (not_not_intro hseq), if_pos ⟨hstore, hfault⟩]
  simp only [squashEntry]
  rw [hstep]

end Sys2Proof.Machine

/-! PROOFS. The arithmetic of the circular buffers is kept (10_state.md R37, R38, R47, R56). -/

namespace Sys2Proof.Machine

open Sys2Proof.Safety

theorem squashedOne_rings {c : Nat} {s t : State} (h : SquashedOne c s t) (hnum : (s.ctx c).robRing.num ≠ 0)
    (hrings : ContextRingsOk (s.ctx c)) : ContextRingsOk (t.ctx c) := by
  obtain ⟨hrob, hlsq, hifq⟩ := hrings
  have hifqRing : (t.ctx c).ifqRing = (s.ctx c).ifqRing := (congrArg Context.ifqRing h.frame.ctx :)
  refine ⟨?_, ?_, hifqRing ▸ hifq⟩
  · rw [h.robRing]
    exact ringOk_popTail hrob hnum
  · rw [h.lsqRing]
    split
    · exact ringOk_popTail hlsq (h.partner ‹_›).1
    · exact hlsq

/-- What a squash of entries that the buffer holds keeps, however many it undoes. -/
theorem squashMany_induct_num {c : Nat} (P : State → Prop) (hstep : ∀ s t, P s → (s.ctx c).robRing.num ≠ 0 →
    SquashedOne c s t → P t) : ∀ {n : Nat} {s t : State}, n ≤ (s.ctx c).robRing.num → P s → squashMany c n s = .ok t → P t := by
  intro n
  induction n with
  | zero =>
    intro s t _ hp h
    cases h
    exact hp
  | succ n ih =>
    intro s t hn hp h
    obtain ⟨s1, h1, h2⟩ := (squashMany_succ_ok c n s t).mp h
    have hone := squashEntry_spec h1
    refine ih ?_ (hstep s s1 hp (by omega) hone) h2
    rw [hone.robRing, Ring.popTail_num]
    omega

theorem squashMany_rings {c n : Nat} {s t : State} (hn : n ≤ (s.ctx c).robRing.num) (hrings : ContextRingsOk (s.ctx c))
    (h : squashMany c n s = .ok t) : ContextRingsOk (t.ctx c) :=
  squashMany_induct_num (fun u => ContextRingsOk (u.ctx c)) (fun _ _ hu hnum hone => squashedOne_rings hone hnum hu) hn
    hrings h

theorem youngerCount_le (x : Context) (t : Nat) : youngerCount x t ≤ x.robRing.num := by
  simp only [youngerCount]
  omega

theorem flushBody_rings {c : Nat} {s t : State} (h : flushBody c s = .ok t) : ContextRingsOk (t.ctx c) := by
  obtain ⟨s1, _, _, rfl⟩ := flushBody_ok c s t h
  rw [flushFinish_ctx_same]
  exact ⟨ringOk_empty _, ringOk_empty _, ringOk_empty _⟩

theorem evict_rings {c : Nat} {s t : State} (h : evict c s = .ok t) : ContextRingsOk (t.ctx c) := by
  rw [(evictedFrom_of_ok h).ctx]
  exact ⟨ringOk_empty _, ringOk_empty _, ringOk_empty _⟩

theorem admitTo_rings {c k : Nat} {s t : State} (h : admitTo c k s = .ok t) : ContextRingsOk (t.ctx c) := by
  obtain ⟨n, _, _, _, hspec⟩ := admitTo_ok h
  obtain ⟨_, _, _, hrob, hlsq, hifq, _⟩ := hspec.admitted
  rw [ContextRingsOk, hrob, hlsq, hifq]
  exact ⟨ringOk_empty _, ringOk_empty _, ringOk_empty _⟩

theorem afterRollback_ctx_same (c t n : Nat) (m : Bool) (s : State) : (afterRollback c t m n s).ctx c
    = { s.ctx c with
        ifqRing := (s.ctx c).ifqRing.drain
        fetchPc := ((s.ctx c).entry .rob t).nextPc
        fetchStallUntil := if m || s.cfg.penaltyOnAllRollbacks then stallEnd s.now s.cfg.mispredPenalty
          else (s.ctx c).fetchStallUntil } := by
  cases m <;> simp [afterRollback, emitCountDec]

theorem dispatched_rings {c : BitVec 8} {p : DispatchWords} {s : State} (h : Dispatchable s c p)
    (hrings : ContextRingsOk (s.ctx c.toNat)) :
    ContextRingsOk ((dispatchWrite c.toNat (classify s.cfg p.opcode) p s).ctx c.toNat) := by
  obtain ⟨_, _, _, _, _, hrob, hlsq, _⟩ := h
  obtain ⟨hrobOk, hlsqOk, hifqOk⟩ := hrings
  rw [dispatchWrite_ctx_same]
  refine ⟨?_, ?_, ?_⟩
  · rw [Context.dispatched_robRing]
    exact ringOk_pushTail hrobOk hrob
  · rw [Context.dispatched_lsqRing]
    split
    · exact ringOk_pushTail hlsqOk (hlsq ‹_›)
    · exact hlsqOk
  · rw [Context.dispatched_ifqRing]
    exact hifqOk

theorem partnerCheck_ready_num {x : Context} {e : Entry} (h : partnerCheck x e = .ready) (he : e.eaComp = true) :
    x.lsqRing.num ≠ 0 ∧ (x.entry .lsq x.lsqRing.head).seq = e.seq ∧ (x.entry .lsq x.lsqRing.head).completed = true := by
  unfold partnerCheck at h
  rw [if_pos he] at h
  dsimp only at h
  split at h
  · cases h
  · split at h
    · cases h
    · split at h
      · exact ⟨‹_›, not_not.mp ‹_›, ‹_›⟩
      · cases h

theorem committed_rings {c : Nat} {s s1 : State} (hnum : (s.ctx c).robRing.num ≠ 0)
    (hpartner : partnerCheck (s.ctx c) ((s.ctx c).entry .rob (s.ctx c).robRing.head) = .ready)
    (hreg : commitReg (s.ctx c).core ((s.ctx c).entry .rob (s.ctx c).robRing.head) s = .ok s1)
    (hrings : ContextRingsOk (s.ctx c)) :
    ContextRingsOk ((retireHead c ((s.ctx c).entry .rob (s.ctx c).robRing.head) s1).ctx c) := by
  obtain ⟨hrob, hlsq, hifq⟩ := hrings
  rw [retireHead_ctx_same, (commitReg_spec hreg).1.ctx]
  refine ⟨ringOk_popHead hrob hnum, ?_, hifq⟩
  split
  · exact ringOk_popHead hlsq (partnerCheck_ready_num hpartner ‹_›).1
  · exact hlsq

/-- A context whose entries and counts alone are written keeps its rings. -/
theorem releaseIqSlot_rings {c : Nat} {b : Buf} {i : Nat} {s : State} (h : ContextRingsOk (s.ctx c)) :
    ContextRingsOk ((releaseIqSlot c b i s).ctx c) := by
  have hrest := releaseIqSlot_ctx_rest c b i s c
  rw [← hrest] at h
  exact h

/-- The buffers of the context a command names. -/
theorem Performed.ctxRings {i : Instr} {s s' : State} {r : Response} (h : Performed s i s' r) :
    ∀ c ∈ usesCtx i, ContextRingsOk (s.ctx c.toNat) → ContextRingsOk (s'.ctx c.toNat) := by
  have hsetEntry : ∀ {c : Nat} {b : Buf} {j : Nat} {e : Entry}, ContextRingsOk (s.ctx c) →
      ContextRingsOk ((s.setEntry c b j e).ctx c) := fun {c b j e} hrings => by
    have hrest := State.setEntry_ctx_rest s c b j e c
    rw [← hrest] at hrings
    exact hrings
  cases h with
  | declined _ => exact fun _ _ => id
  | read _ => exact fun _ _ => id
  | deadRead _ _ _ _ => exact fun _ _ => id
  | addRejected _ _ _ => exact fun _ _ => id
  | setReady _ _ => exact fun _ _ => id
  | inserted _ _ _ _ => exact fun _ _ => id
  | popped _ _ => exact fun _ _ => id
  | removed _ _ => exact fun _ _ => id
  | dispatched h =>
    rintro _ ⟨⟩
    exact dispatched_rings h
  | markedQueued _ _ _ =>
    rintro _ ⟨⟩
    exact hsetEntry
  | issued _ _ _ =>
    rintro _ ⟨⟩
    exact fun hrings => releaseIqSlot_rings (hsetEntry hrings)
  | completed _ _ _ =>
    rintro _ ⟨⟩
    exact hsetEntry
  | committed _ _ hnum _ hpartner hreg =>
    rintro _ ⟨⟩
    exact committed_rings hnum hpartner hreg
  | rolledBack _ _ hsquash =>
    rintro _ ⟨⟩ hrings
    obtain ⟨hrob, hlsq, hifq⟩ := squashMany_rings (youngerCount_le _ _) hrings hsquash
    rw [afterRollback_ctx_same]
    exact ⟨hrob, hlsq, ringOk_drain hifq⟩
  | flushed _ _ hflush =>
    rintro _ ⟨⟩
    exact fun _ => flushBody_rings hflush
  | added _ _ _ hadmit =>
    rintro _ ⟨⟩
    exact fun _ => admitTo_rings hadmit
  | ejected _ _ hevict =>
    rintro _ ⟨⟩
    exact fun _ => evict_rings hevict
  | transferred _ _ _ _ _ hadmit =>
    rintro _ ⟨⟩
    exact fun _ => admitTo_rings hadmit
  | transferRejected _ _ _ _ hevict _ =>
    rintro _ ⟨⟩
    exact fun _ => evict_rings hevict
  | pushed _ _ hroom =>
    rintro _ ⟨⟩ ⟨hrob, hlsq, hifq⟩
    rw [State.updCtx_ctx_same]
    exact ⟨hrob, hlsq, ringOk_pushTail hifq hroom⟩
  | poppedIfq _ _ _ hnum =>
    rintro _ ⟨⟩ ⟨hrob, hlsq, hifq⟩
    rw [State.updCtx_ctx_same]
    exact ⟨hrob, hlsq, ringOk_popHead hifq hnum⟩
  | wroteWreg _ =>
    rintro _ ⟨⟩ hrings
    rw [State.updCtx_ctx_same]
    exact hrings
  | setPc _ =>
    rintro _ ⟨⟩ hrings
    rw [State.updCtx_ctx_same]
    exact hrings

theorem Performed.rings {i : Instr} {s s' : State} {r : Response} (h : Performed s i s' r) (hrings : RingsOk s) :
    RingsOk s' := by
  intro j hj
  rw [h.within.cfg] at hj
  by_cases hreach : ReachesCtx i j
  · obtain ⟨c, hc, rfl⟩ := hreach
    exact h.ctxRings c hc (hrings _ hj)
  · rw [h.within.ctx j hreach]
    exact hrings j hj

theorem rejectHeader_eng (e : DecodeError) (s : State) : (rejectHeader e s).eng = s.eng := by
  unfold rejectHeader
  split <;> rfl

theorem rings_reset {s : State} (h : s.eng = .reset) : RingsOk s := (engineOk_of_reset h).1

/-- The rings depend on the parameters and the engine alone. -/
theorem rings_congr {s t : State} (hcfg : t.cfg = s.cfg) (heng : t.eng = s.eng) (h : RingsOk s) : RingsOk t := by
  intro c hc
  rw [hcfg] at hc
  have hctx : t.ctx c = s.ctx c := congrArg (fun g : Engine => Table.get Context.reset g.contexts c) heng
  rw [hctx]
  exact h c hc

/-- Settles O11: by the five kinds of step, each performed command by the ring operations it uses. -/
theorem ringsKeptByStep : Obligations.RingsKeptByStep := by
  intro s t _ hrings hstep hl
  obtain ⟨_, rfl⟩ | ⟨_, w, rest, i, _, _, hexec⟩ | ⟨_, w, rest, e, _, _, rfl⟩ | ⟨_, _, rfl⟩ | ⟨_, _, _, _, rfl⟩ :=
    step_cases s t hstep
  case inl => exact hrings hl
  case inr.inl =>
    obtain ⟨s', r, hp, rfl⟩ := exec_performed hexec hl
    have hlatch : s.latch.set = false := (congrArg FatalLatch.set hp.within.latch).symm.trans hl
    exact hp.rings (hrings hlatch)
  case inr.inr.inl =>
    rw [rejectHeader_latch (s := s.accept rest w)] at hl
    exact rings_congr (rejectHeader_keeps e (s.accept rest w)).1 (rejectHeader_eng e (s.accept rest w)) (hrings hl)
  case inr.inr.inr.inl => exact rings_reset rfl
  case inr.inr.inr.inr => exact hrings hl

end Sys2Proof.Machine

/-! PROOFS. The invariants of 10_state.md section 5 in the form in which they are kept: what each context satisfies by itself,
and what the contexts of a core add up to. -/

namespace Sys2Proof.Machine

open Sys2Proof.Safety

/-! ### Sums over the contexts -/

/-- Of two sums that differ in one summand. -/
theorem sum_range_swap {n c : Nat} {f g : Nat → Nat} (hc : c < n) (h : ∀ j, j ≠ c → f j = g j) :
    ((List.range n).map f).sum + g c = ((List.range n).map g).sum + f c := by
  induction n with
  | zero => omega
  | succ n ih =>
    simp only [List.range_succ, List.map_append, List.map_cons, List.map_nil, List.sum_append, List.sum_singleton]
    by_cases hcn : c = n
    · subst hcn
      rw [List.map_congr_left fun j hj => h j (List.mem_range.mp hj).ne]
      omega
    · have := ih (by omega)
      have := h n (Ne.symm hcn)
      omega

theorem sum_map_filter {α : Type} (l : List α) (p : α → Bool) (f : α → Nat) :
    ((l.filter p).map f).sum = (l.map (fun a => if p a then f a else 0)).sum := by
  induction l with
  | nil => rfl
  | cons a l ih => cases h : p a <;> simp [h, ih]

theorem length_filter_eq_sum {α : Type} (l : List α) (p : α → Bool) :
    (l.filter p).length = (l.map (fun a => if p a then 1 else 0)).sum := by
  rw [← sum_map_filter]
  simp

/-! ### Rename chains over a list of writers -/

/-- The committed mapping behind the writers `ws` of a register whose rename entry is `r` (10_state.md R58). -/
def cmapOf (ws : List Entry) (r : Nat) : Option Nat :=
  match ws with
  | [] => some r
  | e :: _ => e.oldPhysreg

/-- The live ROB entries among `l` that write architected register `a`. -/
def writersOf (l : List Entry) (a : Nat) : List Entry := l.filter (fun e => decide (e.archreg.toNat = a) && e.physreg.isSome)

theorem writers_eq (x : Context) (a : Nat) : writers x a = writersOf (liveEntries x .rob) a := rfl

theorem cmap_eq (x : Context) (a : Nat) : cmap x a = cmapOf (writersOf (liveEntries x .rob) a) (x.renameOf a) := by
  rw [← writers_eq]
  unfold cmap
  cases writers x a <;> rfl

/-- The rename chain of the writers `ws` of a register whose rename entry is `r` (10_state.md R61). -/
structure ChainOk (bound : Nat) (ws : List Entry) (r : Nat) : Prop where
  links : cmapOf ws r :: ws.map (fun e => e.physreg) = ws.map (fun e => e.oldPhysreg) ++ [some r]
  rename_lt : r < bound
  old_lt : ∀ e ∈ ws, ∀ p, e.oldPhysreg = some p → p < bound

section Chain

variable {bound r : Nat} {e : Entry} {ws : List Entry}

theorem chainOk_nil (h : r < bound) : ChainOk bound [] r := ⟨rfl, h, nofun⟩

/-- A new youngest writer displaces the rename entry. -/
theorem ChainOk.append {p : Nat} (h : ChainOk bound ws r) (hold : e.oldPhysreg = some r) (hphys : e.physreg = some p)
    (hp : p < bound) : ChainOk bound (ws ++ [e]) p ∧ cmapOf (ws ++ [e]) p = cmapOf ws r := by
  have hcmap : cmapOf (ws ++ [e]) p = cmapOf ws r := by
    cases ws with
    | nil => exact hold
    | cons w ws => rfl
  refine ⟨⟨?_, hp, fun w hw q hq => ?_⟩, hcmap⟩
  · rw [hcmap, List.map_append, ← List.cons_append, h.links]
    simp [hold, hphys]
  · obtain hw | hw := List.mem_append.mp hw
    · exact h.old_lt w hw q hq
    · obtain rfl := List.mem_singleton.mp hw
      cases hold.symm.trans hq
      exact h.rename_lt

/-- The youngest writer holds the rename entry, and without it the chain ends in what it displaced. -/
theorem ChainOk.of_append {old : Nat} (h : ChainOk bound (ws ++ [e]) r) (hold : e.oldPhysreg = some old) :
    e.physreg = some r ∧ old < bound ∧ ChainOk bound ws old ∧ cmapOf (ws ++ [e]) r = cmapOf ws old := by
  have hcmap : cmapOf (ws ++ [e]) r = cmapOf ws old := by
    cases ws with
    | nil => exact hold
    | cons w ws => rfl
  have hlinks := h.links
  rw [hcmap, List.map_append, ← List.cons_append, List.map_append] at hlinks
  obtain ⟨hinit, hlast⟩ := List.append_inj' hlinks rfl
  have holdlt : old < bound := h.old_lt e (List.mem_append_right _ (List.mem_singleton_self e)) old hold
  refine ⟨List.singleton_injective hlast, holdlt, ⟨?_, holdlt, fun w hw => h.old_lt w (List.mem_append_left _ hw)⟩, hcmap⟩
  rw [hinit]
  simp [hold]

/-- Without the oldest writer its register is the committed mapping. -/
theorem ChainOk.of_cons (h : ChainOk bound (e :: ws) r) : ChainOk bound ws r ∧ cmapOf ws r = e.physreg := by
  have hlinks : e.physreg :: ws.map (fun e => e.physreg) = ws.map (fun e => e.oldPhysreg) ++ [some r] :=
    (List.cons.inj h.links).2
  have hcmap : cmapOf ws r = e.physreg := by
    cases ws with
    | nil => exact (List.cons.inj hlinks).1.symm
    | cons w ws => exact (List.cons.inj hlinks).1.symm
  exact ⟨⟨by rw [hcmap, hlinks], h.rename_lt, fun w hw => h.old_lt w (List.mem_cons_of_mem _ hw)⟩, hcmap⟩

/-- The committed mapping is a register of the bank. -/
theorem ChainOk.cmap_lt (h : ChainOk bound ws r) {p : Nat} (hp : cmapOf ws r = some p) : p < bound := by
  cases ws with
  | nil =>
    cases hp
    exact h.rename_lt
  | cons w ws => exact h.old_lt w List.mem_cons_self p hp

/-- The register of every writer is a register of the bank. -/
theorem ChainOk.physreg_lt (h : ChainOk bound ws r) {p : Nat} (he : e ∈ ws) (hp : e.physreg = some p) : p < bound := by
  have hmem : some p ∈ ws.map (fun e => e.oldPhysreg) ++ [some r] := by
    rw [← h.links]
    exact List.mem_cons_of_mem _ (List.mem_map.mpr ⟨e, he, hp⟩)
  obtain hmem | hmem := List.mem_append.mp hmem
  · obtain ⟨w, hw, hold⟩ := List.mem_map.mp hmem
    exact h.old_lt w hw p hold
  · cases List.mem_singleton.mp hmem
    exact h.rename_lt

end Chain

/-! ### One context by itself -/

/-- The live entries `E` of the ROB and `M` of the LSQ of a context agree with each other, with its `icount` and with its rename
table (10_state.md R40, R41, R57, R60, R61). -/
structure BufsOk (bound : Nat) (attached : Bool) (rename : Nat → Nat) (icount : Nat) (E M : List Entry) : Prop where
  rob : ∀ e ∈ E, RobEntryOk e
  lsq : ∀ l ∈ M, LsqEntryOk l
  seqs : (E.filter (fun e => e.eaComp)).map (fun e => e.seq) = M.map (fun l => l.seq)
  icount : icount = (E.filter (fun e => e.inIq)).length
  chains : attached = true → ∀ a < 64, ChainOk bound (writersOf E a) (rename a)

/-- What the invariants say of one context by itself. -/
structure ContextOk (cfg : Config.Params) (x : Context) : Prop where
  rings : ContextRingsOk x
  bufs : BufsOk cfg.prfBankSize x.attached x.renameOf x.icount (liveEntries x .rob) (liveEntries x .lsq)
  detached : x.attached = false → x.robRing.num = 0 ∧ x.lsqRing.num = 0 ∧ x.ifqRing.num = 0 ∧ x.icount = 0

/-! ### What the contexts of a core add up to -/

/-- A number of a context's, where it is attached to core `k`, else 0. -/
def onCore (x : Context) (k n : Nat) : Nat := if x.attached = true ∧ x.core = k then n else 0

/-- How many of the entries own register `p` of bank `b`. -/
def owns (E : List Entry) (b : Bank) (p : Nat) : Nat :=
  (E.filter (fun e => decide (e.physreg = some p) && decide (bankOf e.archreg.toNat = b))).length

/-- How many architected registers have register `p` of bank `b` as their committed mapping. -/
def commits (x : Context) (b : Bank) (p : Nat) : Nat :=
  ((List.range 64).filter (fun a => decide (bankOf a = b) && decide (cmap x a = some p))).length

/-- How many entries own an ALLOC register, none of any other. -/
def RegState.allocs : RegState → Nat
  | .free => 0
  | .alloc => 1
  | .architected => 0

/-- How many pairs have an ARCHITECTED register as committed mapping, none any other. -/
def RegState.architects : RegState → Nat
  | .free => 0
  | .alloc => 0
  | .architected => 1

theorem ownership_iff (o m : Nat) (r : RegState) :
    (o + m ≤ 1 ∧ (r = .alloc ↔ o = 1) ∧ (r = .architected ↔ m = 1)) ↔ o = r.allocs ∧ m = r.architects := by
  cases r <;> simp [RegState.allocs, RegState.architects] <;> omega

theorem owners_eq (s : State) (k : Nat) (b : Bank) (p : Nat) : owners s k b p
    = ((List.range s.cfg.numContexts).map (fun c => onCore (s.ctx c) k (owns (liveEntries (s.ctx c) .rob) b p))).sum := by
  rw [owners, attachedTo, sum_map_filter]
  simp [onCore, owns]

theorem committers_eq (s : State) (k : Nat) (b : Bank) (p : Nat) : committers s k b p
    = ((List.range s.cfg.numContexts).map (fun c => onCore (s.ctx c) k (commits (s.ctx c) b p))).sum := by
  rw [committers, attachedTo, sum_map_filter]
  simp [onCore, commits]

/-- Every invariant of 10_state.md section 5, taken apart by what it speaks of. -/
structure EngineSound (s : State) : Prop where
  ctx : ∀ c < s.cfg.numContexts, ContextOk s.cfg (s.ctx c)
  seat : ∀ c < s.cfg.numContexts, (s.ctx c).attached = true →
    StandsIn s c (s.ctx c) (template s.cfg (s.ctx c).core (s.ctx c).slot)
  slots : ∀ k < s.cfg.numCores, ∀ n < s.cfg.maxContexts, SlotOk s k n
  iqSum : ∀ k < s.cfg.numCores, (s.core k).iqCount
    = ((List.range s.cfg.numContexts).map (fun c => onCore (s.ctx c) k (s.ctx c).icount)).sum
  iqCap : ∀ k < s.cfg.numCores, (s.core k).iqCount ≤ iqCapOf s.cfg k
  queues : QueuesOk s
  owned : ∀ k < s.cfg.numCores, ∀ b, ∀ p < s.cfg.prfBankSize, owners s k b p = (s.reg k b p).state.allocs
  committed : ∀ k < s.cfg.numCores, ∀ b, ∀ p < s.cfg.prfBankSize, committers s k b p = (s.reg k b p).state.architects

theorem mem_everyBank (b : Bank) : b ∈ everyBank := by cases b <;> decide

theorem mem_everyQueue (q : Queue) : q ∈ everyQueue := by cases q <;> decide

theorem engineOk_iff (s : State) : EngineOk s ↔ EngineSound s := by
  constructor
  · rintro ⟨hrings, ⟨hattach, hslots⟩, hentries, hmatches, ⟨hicount, hiq⟩, hqueues, hown, hchains⟩
    have hown' : ∀ k < s.cfg.numCores, ∀ b, ∀ p < s.cfg.prfBankSize,
        owners s k b p = (s.reg k b p).state.allocs ∧ committers s k b p = (s.reg k b p).state.architects :=
      fun k hk b p hp => (ownership_iff _ _ _).mp (hown k hk b (mem_everyBank b) p hp)
    refine ⟨fun c hc => ⟨hrings c hc, ⟨?_, ?_, hmatches c hc, hicount c hc, fun ha a ha64 => ?_⟩, (hattach c hc).2⟩,
      fun c hc => (hattach c hc).1, hslots, fun k hk => (hiq k hk).1, fun k hk => (hiq k hk).2, hqueues,
      fun k hk b p hp => (hown' k hk b p hp).1, fun k hk b p hp => (hown' k hk b p hp).2⟩
    · exact fun e he => of_decide_eq_true (List.all_eq_true.mp (hentries c hc).1 e he)
    · exact fun l hl => of_decide_eq_true (List.all_eq_true.mp (hentries c hc).2 l hl)
    · obtain ⟨hlinks, hlt, hold⟩ := hchains c hc ha a ha64
      rw [cmap_eq] at hlinks
      refine ⟨hlinks, hlt, fun e he p hp => ?_⟩
      have := List.all_eq_true.mp hold e he
      simpa [hp] using this
  · rintro ⟨hctx, hseat, hslots, hiqSum, hiqCap, hqueues, howned, hcommitted⟩
    refine ⟨fun c hc => (hctx c hc).rings, ⟨fun c hc => ⟨hseat c hc, (hctx c hc).detached⟩, hslots⟩, fun c hc => ⟨?_, ?_⟩,
      fun c hc => (hctx c hc).bufs.seqs, ⟨fun c hc => (hctx c hc).bufs.icount, fun k hk => ⟨hiqSum k hk, hiqCap k hk⟩⟩, hqueues,
      fun k hk b _ p hp => (ownership_iff _ _ _).mpr ⟨howned k hk b p hp, hcommitted k hk b p hp⟩, fun c hc ha a ha64 => ?_⟩
    · exact List.all_eq_true.mpr fun e he => decide_eq_true ((hctx c hc).bufs.rob e he)
    · exact List.all_eq_true.mpr fun l hl => decide_eq_true ((hctx c hc).bufs.lsq l hl)
    · obtain ⟨hlinks, hlt, hold⟩ := (hctx c hc).bufs.chains ha a ha64
      rw [cmap_eq]
      refine ⟨hlinks, hlt, List.all_eq_true.mpr fun e he => ?_⟩
      cases hp : e.oldPhysreg with
      | none => rfl
      | some p => exact decide_eq_true (hold e he p hp)

end Sys2Proof.Machine

/-! PROOFS. How the invariants are kept by a change to one context: the frame for all commands, and what a context's live
entries still satisfy once one is appended, removed or replaced. -/

namespace Sys2Proof.Machine

open Sys2Proof.Safety

/-! ### A change to one context -/

theorem onCore_of_attached {x : Context} (h : x.attached = true) (n : Nat) : onCore x x.core n = n := if_pos ⟨h, rfl⟩

theorem onCore_of_ne {x : Context} {k : Nat} (h : k ≠ x.core) (n : Nat) : onCore x k n = 0 :=
  if_neg fun h' => h h'.2.symm

theorem onCore_of_detached {x : Context} {k : Nat} (h : x.attached = false) (n : Nat) : onCore x k n = 0 :=
  if_neg fun h' => by simp [h] at h'

theorem onCore_zero (x : Context) (k : Nat) : onCore x k 0 = 0 := by simp [onCore]

/-- What the invariants of the whole engine ask of a change to context `c` alone. -/
structure SoundChange (c : Nat) (s t : State) : Prop where
  cfg : t.cfg = s.cfg
  ctx_ne : SameCtxsBut c s t
  ctx : ContextOk t.cfg (t.ctx c)
  seat : (t.ctx c).attached = true → StandsIn t c (t.ctx c) (template t.cfg (t.ctx c).core (t.ctx c).slot)
  slots : ∀ k < t.cfg.numCores, ∀ n < t.cfg.maxContexts, SlotOk t k n
  seat_ne : ∀ j < t.cfg.numContexts, j ≠ c → (t.ctx j).attached = true →
    (t.core (t.ctx j).core).slotOf (t.ctx j).slot = some j
  iqSum : ∀ k < t.cfg.numCores, (t.core k).iqCount + onCore (s.ctx c) k (s.ctx c).icount
    = (s.core k).iqCount + onCore (t.ctx c) k (t.ctx c).icount
  iqCap : ∀ k < t.cfg.numCores, (t.core k).iqCount ≤ iqCapOf t.cfg k
  queues : QueuesOk t
  owned : ∀ k < t.cfg.numCores, ∀ b, ∀ p < t.cfg.prfBankSize,
    (t.reg k b p).state.allocs + onCore (s.ctx c) k (owns (liveEntries (s.ctx c) .rob) b p)
      = (s.reg k b p).state.allocs + onCore (t.ctx c) k (owns (liveEntries (t.ctx c) .rob) b p)
  committed : ∀ k < t.cfg.numCores, ∀ b, ∀ p < t.cfg.prfBankSize,
    (t.reg k b p).state.architects + onCore (s.ctx c) k (commits (s.ctx c) b p)
      = (s.reg k b p).state.architects + onCore (t.ctx c) k (commits (t.ctx c) b p)

/-- The sum over the contexts follows a change to one of them. -/
theorem sum_onCore_of_change {s t : State} {c k r r' : Nat} {f : Context → Nat} (hc : c < s.cfg.numContexts)
    (hcfg : t.cfg = s.cfg) (hne : SameCtxsBut c s t)
    (hsum : ((List.range s.cfg.numContexts).map (fun j => onCore (s.ctx j) k (f (s.ctx j)))).sum = r)
    (hchange : r' + onCore (s.ctx c) k (f (s.ctx c)) = r + onCore (t.ctx c) k (f (t.ctx c))) :
    ((List.range t.cfg.numContexts).map (fun j => onCore (t.ctx j) k (f (t.ctx j)))).sum = r' := by
  have hswap := sum_range_swap (f := fun j => onCore (s.ctx j) k (f (s.ctx j)))
    (g := fun j => onCore (t.ctx j) k (f (t.ctx j))) hc fun j hj => by rw [hne j hj]
  rw [hcfg]
  omega

theorem EngineSound.of_change {c : Nat} {s t : State} (h : EngineSound s) (hc : c < s.cfg.numContexts)
    (hchange : SoundChange c s t) : EngineSound t := by
  obtain ⟨hcfg, hne, hctx, hseat, hslots, hseat_ne, hiqSum, hiqCap, hqueues, howned, hcommitted⟩ := hchange
  refine ⟨fun j hj => ?_, fun j hj ha => ?_, hslots, fun k hk => ?_, hiqCap, hqueues, fun k hk b p hp => ?_,
    fun k hk b p hp => ?_⟩
  · by_cases hjc : j = c
    · exact hjc ▸ hctx
    · rw [hne j hjc, hcfg]
      exact h.ctx j (hcfg ▸ hj)
  · by_cases hjc : j = c
    · exact hjc ▸ hseat (hjc ▸ ha)
    · have hslot := hseat_ne j hj hjc ha
      rw [hne j hjc] at ha hslot ⊢
      obtain ⟨hcore, hn, _, hcaps⟩ := h.seat j (hcfg ▸ hj) ha
      rw [hcfg]
      exact ⟨hcfg ▸ hcore, hcfg ▸ hn, hslot, hcaps⟩
  · exact (sum_onCore_of_change (f := fun x => x.icount) hc hcfg hne (h.iqSum k (hcfg ▸ hk)).symm (hiqSum k hk)).symm
  · rw [owners_eq]
    refine sum_onCore_of_change (f := fun x => owns (liveEntries x .rob) b p) hc hcfg hne ?_ (howned k hk b p hp)
    rw [← owners_eq]
    exact h.owned k (hcfg ▸ hk) b p (hcfg ▸ hp)
  · rw [committers_eq]
    refine sum_onCore_of_change (f := fun x => commits x b p) hc hcfg hne ?_ (hcommitted k hk b p hp)
    rw [← committers_eq]
    exact h.committed k (hcfg ▸ hk) b p (hcfg ▸ hp)

/-- Context `c` stands where it stood, and the slot rosters are as before. -/
structure SameSeat (c : Nat) (s t : State) : Prop where
  attached : (t.ctx c).attached = (s.ctx c).attached
  core : (t.ctx c).core = (s.ctx c).core
  slot : (t.ctx c).slot = (s.ctx c).slot
  robCap : (t.ctx c).robRing.cap = (s.ctx c).robRing.cap
  lsqCap : (t.ctx c).lsqRing.cap = (s.ctx c).lsqRing.cap
  ifqCap : (t.ctx c).ifqRing.cap = (s.ctx c).ifqRing.cap
  slotOf : ∀ k n, (t.core k).slotOf n = (s.core k).slotOf n

section Seat

variable {c : Nat} {s t : State}

theorem SameSeat.standsIn (h : SameSeat c s t) (hcfg : t.cfg = s.cfg)
    (hs : StandsIn s c (s.ctx c) (template s.cfg (s.ctx c).core (s.ctx c).slot)) :
    StandsIn t c (t.ctx c) (template t.cfg (t.ctx c).core (t.ctx c).slot) := by
  obtain ⟨_, hcore, hslot, hrob, hlsq, hifq, hslotOf⟩ := h
  rw [StandsIn, hcfg, hcore, hslot, hrob, hlsq, hifq, hslotOf]
  exact hs

theorem SameSeat.slotOk (h : SameSeat c s t) (hcfg : t.cfg = s.cfg) (hne : SameCtxsBut c s t) {k n : Nat}
    (hs : SlotOk s k n) : SlotOk t k n := by
  obtain ⟨hattached, hcore, hslot, _, _, _, hslotOf⟩ := h
  have hctx : ∀ j, (t.ctx j).attached = (s.ctx j).attached ∧ (t.ctx j).core = (s.ctx j).core ∧ (t.ctx j).slot = (s.ctx j).slot :=
    fun j => by
      by_cases hj : j = c
      · subst hj
        exact ⟨hattached, hcore, hslot⟩
      · rw [hne j hj]
        exact ⟨rfl, rfl, rfl⟩
  rw [SlotOk, hslotOf, hcfg]
  simpa only [hctx] using hs

/-- A change to an attached context that keeps its seat, by what it does on its core. -/
theorem EngineSound.of_seated (h : EngineSound s) (hc : c < s.cfg.numContexts) (ha : (s.ctx c).attached = true)
    (hcfg : t.cfg = s.cfg) (hne : SameCtxsBut c s t) (hcores : SameCoresBut (s.ctx c).core s t) (hseat : SameSeat c s t)
    (hctx : ContextOk t.cfg (t.ctx c))
    (hiqSum : (t.core (s.ctx c).core).iqCount + (s.ctx c).icount = (s.core (s.ctx c).core).iqCount + (t.ctx c).icount)
    (hiqCap : (t.core (s.ctx c).core).iqCount ≤ iqCapOf s.cfg (s.ctx c).core) (hqueues : QueuesOk t)
    (howned : ∀ b, ∀ p < s.cfg.prfBankSize,
      (t.reg (s.ctx c).core b p).state.allocs + owns (liveEntries (s.ctx c) .rob) b p
        = (s.reg (s.ctx c).core b p).state.allocs + owns (liveEntries (t.ctx c) .rob) b p)
    (hcommitted : ∀ b, ∀ p < s.cfg.prfBankSize,
      (t.reg (s.ctx c).core b p).state.architects + commits (s.ctx c) b p
        = (s.reg (s.ctx c).core b p).state.architects + commits (t.ctx c) b p) : EngineSound t := by
  have hat : (t.ctx c).attached = true := hseat.attached.trans ha
  have hreg : ∀ k, k ≠ (s.ctx c).core → ∀ b p, t.reg k b p = s.reg k b p := fun k hk b p => by
    rw [State.reg, hcores k hk]
    rfl
  have honCore : ∀ n, onCore (t.ctx c) (s.ctx c).core n = n := fun n => hseat.core ▸ onCore_of_attached hat n
  refine h.of_change hc ⟨hcfg, hne, hctx, fun _ => hseat.standsIn hcfg (h.seat c hc ha),
    fun k hk n hn => hseat.slotOk hcfg hne (h.slots k (hcfg ▸ hk) n (hcfg ▸ hn)), fun j hj hjc haj => ?_, fun k hk => ?_,
    fun k hk => ?_, hqueues, fun k hk b p hp => ?_, fun k hk b p hp => ?_⟩
  · rw [hseat.slotOf, hne j hjc] at *
    obtain ⟨_, _, hslot, _⟩ := h.seat j (hcfg ▸ hj) haj
    exact hslot
  · by_cases hkc : k = (s.ctx c).core
    · rw [hkc, onCore_of_attached ha, honCore]
      exact hiqSum
    · rw [onCore_of_ne hkc, onCore_of_ne (hseat.core.symm ▸ hkc), hcores k hkc]
  · by_cases hkc : k = (s.ctx c).core
    · rw [hkc, hcfg]
      exact hiqCap
    · rw [hcores k hkc, hcfg]
      exact h.iqCap k (hcfg ▸ hk)
  · by_cases hkc : k = (s.ctx c).core
    · rw [hkc, onCore_of_attached ha, honCore]
      exact howned b p (hcfg ▸ hp)
    · rw [onCore_of_ne hkc, onCore_of_ne (hseat.core.symm ▸ hkc), hreg k hkc]
  · by_cases hkc : k = (s.ctx c).core
    · rw [hkc, onCore_of_attached ha, honCore]
      exact hcommitted b p (hcfg ▸ hp)
    · rw [onCore_of_ne hkc, onCore_of_ne (hseat.core.symm ▸ hkc), hreg k hkc]

end Seat

/-! ### The wakeup queues -/

/-- The memberships left name entries that are as they were. -/
theorem queuesOk_of_sublist {s t : State} (hcfg : t.cfg = s.cfg) (h : QueuesOk s)
    (hsub : ∀ k q, List.Sublist ((t.core k).wq q) ((s.core k).wq q))
    (hlive : ∀ k q, ∀ m ∈ (t.core k).wq q, s.live m.ctx m.buf m.idx m.gen = true → (s.ctx m.ctx).core = k →
      t.live m.ctx m.buf m.idx m.gen = true ∧ (t.ctx m.ctx).core = k
        ∧ ((t.ctx m.ctx).entry m.buf m.idx).seq = ((s.ctx m.ctx).entry m.buf m.idx).seq) : QueuesOk t := by
  intro k hk q hq
  obtain ⟨hmem, hpairs⟩ := h k (hcfg ▸ hk) q hq
  refine ⟨fun m hm => ?_, hpairs.sublist (hsub k q)⟩
  obtain ⟨hctx, hl, hcore, hkey⟩ := hmem m ((hsub k q).subset hm)
  obtain ⟨hl', hcore', hseq⟩ := hlive k q m hm hl hcore
  exact ⟨hcfg ▸ hctx, hl', hcore', fun hready => (hkey hready).trans hseq.symm⟩

/-- A change to context `c` alone leaves the entries of every other context live. -/
theorem queuesOk_of_change {c : Nat} {s t : State} (hcfg : t.cfg = s.cfg) (h : QueuesOk s) (hne : SameCtxsBut c s t)
    (hsub : ∀ k q, List.Sublist ((t.core k).wq q) ((s.core k).wq q))
    (hlive : ∀ q, ∀ m ∈ (t.core (s.ctx c).core).wq q, m.ctx = c → s.live c m.buf m.idx m.gen = true →
      t.live c m.buf m.idx m.gen = true ∧ (t.ctx c).core = (s.ctx c).core
        ∧ ((t.ctx c).entry m.buf m.idx).seq = ((s.ctx c).entry m.buf m.idx).seq) : QueuesOk t := by
  refine queuesOk_of_sublist hcfg h hsub fun k q m hm hl hk => ?_
  by_cases hc : m.ctx = c
  · subst hk
    rw [hc] at hl hm ⊢
    exact hlive q m hm hc hl
  · rw [State.live, hne m.ctx hc]
    exact ⟨hl, hk, rfl⟩

theorem live_iff_mem {s : State} {c : Nat} {b : Buf} {i g : Nat} (h : RingOk ((s.ctx c).ring b)) :
    s.live c b i g = true ↔ (s.ctx c).attached = true ∧ i ∈ liveSlots ((s.ctx c).ring b) ∧ g = (s.ctx c).gen b i := by
  rw [State.live, Bool.and_eq_true, Bool.and_eq_true, Ring.isLive_iff h, decide_eq_true_eq, and_assoc]

/-! ### The live entries, one appended -/

theorem writersOf_append (E E' : List Entry) (a : Nat) : writersOf (E ++ E') a = writersOf E a ++ writersOf E' a :=
  List.filter_append ..

theorem writersOf_cons (e : Entry) (E : List Entry) (a : Nat) :
    writersOf (e :: E) a = writersOf [e] a ++ writersOf E a := List.filter_append [e] E

theorem writersOf_singleton_of (e : Entry) {a p : Nat} (ha : e.archreg.toNat = a) (hp : e.physreg = some p) :
    writersOf [e] a = [e] := by simp [writersOf, ha, hp]

theorem writersOf_singleton_of_not (e : Entry) {a : Nat} (h : ¬(e.archreg.toNat = a ∧ e.physreg.isSome = true)) :
    writersOf [e] a = [] := by
  rw [writersOf, List.filter_cons_of_neg (by simpa using h)]
  rfl

theorem mem_writersOf {E : List Entry} {a : Nat} {e : Entry} :
    e ∈ writersOf E a ↔ e ∈ E ∧ e.archreg.toNat = a ∧ e.physreg.isSome = true := by
  simp [writersOf]

/-- A number counted once where the condition holds. -/
abbrev indicator (p : Prop) [Decidable p] : Nat := if p then 1 else 0

theorem owns_append (E E' : List Entry) (b : Bank) (p : Nat) : owns (E ++ E') b p = owns E b p + owns E' b p := by
  simp [owns]

theorem owns_singleton (e : Entry) (b : Bank) (p : Nat) :
    owns [e] b p = indicator (e.physreg = some p ∧ bankOf e.archreg.toNat = b) := by
  rw [owns, indicator]
  split <;> simp_all

theorem length_filter_singleton (e : Entry) (f : Entry → Bool) : ([e].filter f).length = indicator (f e = true) := by
  rw [indicator, List.filter_singleton]
  cases f e <;> simp

/-- A filter over a list with one entry singled out. -/
theorem length_filter_middle (E1 E2 : List Entry) (e : Entry) (f : Entry → Bool) :
    ((E1 ++ e :: E2).filter f).length = (E1.filter f).length + (indicator (f e = true) + (E2.filter f).length) := by
  rw [← length_filter_singleton e f, ← List.length_append, ← List.filter_append, List.singleton_append, List.filter_append,
    List.length_append]

theorem robEntryOk_isSome_old {e : Entry} (h : RobEntryOk e) : e.oldPhysreg.isSome = e.physreg.isSome := by
  obtain ⟨_, _, _, _, _, _, _, hold, _⟩ := h
  exact hold

/-- A writer's displaced mapping. -/
theorem robEntryOk_exists_old {e : Entry} (h : RobEntryOk e) {p : Nat} (hp : e.physreg = some p) :
    ∃ old, e.oldPhysreg = some old := Option.isSome_iff_exists.mp ((robEntryOk_isSome_old h).trans (by rw [hp]; rfl))

section Bufs

variable {bound icount : Nat} {attached : Bool} {rename : Nat → Nat} {E M : List Entry}

/-- The youngest entry, a load or store with its partner, removed. -/
theorem BufsOk.seqs_of_append {e : Entry} (h : BufsOk bound attached rename icount (E ++ [e]) M) (he : e.eaComp = true) :
    ∃ M' l, M = M' ++ [l] ∧ l.seq = e.seq ∧ (E.filter (fun e => e.eaComp)).map (fun e => e.seq) = M'.map (fun l => l.seq) := by
  have hseqs := h.seqs
  rw [List.filter_append, List.map_append, List.filter_cons_of_pos he, List.filter_nil, List.map_singleton] at hseqs
  obtain ⟨M', m, rfl, hinit, hm⟩ := List.append_eq_map_iff.mp hseqs
  obtain ⟨l, rfl, hl⟩ := List.map_eq_singleton_iff.mp hm
  exact ⟨M', l, rfl, hl, hinit.symm⟩

theorem BufsOk.seqs_of_append_not {e : Entry} (h : BufsOk bound attached rename icount (E ++ [e]) M) (he : e.eaComp = false) :
    (E.filter (fun e => e.eaComp)).map (fun e => e.seq) = M.map (fun l => l.seq) := by
  have hseqs := h.seqs
  rwa [List.filter_append, List.filter_cons_of_neg (by simp [he]), List.filter_nil, List.append_nil] at hseqs

/-- The oldest entry, a load or store with its partner, removed. -/
theorem BufsOk.seqs_of_cons {e : Entry} (h : BufsOk bound attached rename icount (e :: E) M) (he : e.eaComp = true) :
    ∃ l M', M = l :: M' ∧ l.seq = e.seq ∧ (E.filter (fun e => e.eaComp)).map (fun e => e.seq) = M'.map (fun l => l.seq) := by
  have hseqs := h.seqs
  rw [List.filter_cons_of_pos he, List.map_cons] at hseqs
  obtain ⟨l, M', rfl, hl, hrest⟩ := List.map_eq_cons_iff.mp hseqs.symm
  exact ⟨l, M', rfl, hl, hrest.symm⟩

theorem BufsOk.seqs_of_cons_not {e : Entry} (h : BufsOk bound attached rename icount (e :: E) M) (he : e.eaComp = false) :
    (E.filter (fun e => e.eaComp)).map (fun e => e.seq) = M.map (fun l => l.seq) := by
  have hseqs := h.seqs
  rwa [List.filter_cons_of_neg (by simp [he])] at hseqs

/-- A new youngest entry. -/
theorem BufsOk.append {e : Entry} {M' : List Entry} {rename' : Nat → Nat}
    (h : BufsOk bound attached rename icount E M) (he : RobEntryOk e) (hl : ∀ l ∈ M', LsqEntryOk l)
    (hseqs : ([e].filter (fun e => e.eaComp)).map (fun e => e.seq) = M'.map (fun l => l.seq)) (hiq : e.inIq = true)
    (hdest : ∀ p, e.physreg = some p → e.oldPhysreg = some (rename e.archreg.toNat) ∧ rename' e.archreg.toNat = p ∧ p < bound)
    (hother : ∀ a, ¬(e.archreg.toNat = a ∧ e.physreg.isSome = true) → rename' a = rename a) :
    BufsOk bound attached rename' (icount + 1) (E ++ [e]) (M ++ M') where
  rob := List.forall_mem_append.mpr ⟨h.rob, List.forall_mem_singleton.mpr he⟩
  lsq := List.forall_mem_append.mpr ⟨h.lsq, hl⟩
  seqs := by rw [List.filter_append, List.map_append, List.map_append, h.seqs, hseqs]
  icount := by rw [h.icount, List.filter_append, List.length_append, length_filter_singleton, indicator, if_pos hiq]
  chains ha a ha64 := by
    rw [writersOf_append]
    by_cases hw : e.archreg.toNat = a ∧ e.physreg.isSome = true
    · obtain ⟨rfl, hsome⟩ := hw
      obtain ⟨p, hp⟩ := Option.isSome_iff_exists.mp hsome
      obtain ⟨hold, hren, hlt⟩ := hdest p hp
      rw [writersOf_singleton_of e rfl hp, hren]
      exact ((h.chains ha _ ha64).append hold hp hlt).1
    · rw [writersOf_singleton_of_not e hw, List.append_nil, hother a hw]
      exact h.chains ha a ha64

/-- The youngest entry removed, its rename entry restored. -/
theorem BufsOk.dropLast {e : Entry} {M' : List Entry} {rename' : Nat → Nat}
    (h : BufsOk bound attached rename icount (E ++ [e]) M) (hM : List.Sublist M' M)
    (hseqs : (E.filter (fun e => e.eaComp)).map (fun e => e.seq) = M'.map (fun l => l.seq))
    (hren : ∀ a, rename' a = if a = e.archreg.toNat ∧ e.physreg.isSome = true then e.oldPhysreg.getD (rename a) else rename a) :
    BufsOk bound attached rename' (icount - indicator (e.inIq = true)) E M' where
  rob e' he' := h.rob e' (List.mem_append_left _ he')
  lsq l hl := h.lsq l (hM.subset hl)
  seqs := hseqs
  icount := by
    rw [h.icount, List.filter_append, List.length_append, length_filter_singleton]
    omega
  chains ha a ha64 := by
    have hchain := h.chains ha a ha64
    rw [writersOf_append] at hchain
    rw [hren]
    by_cases hw : a = e.archreg.toNat ∧ e.physreg.isSome = true
    · obtain ⟨rfl, hsome⟩ := hw
      obtain ⟨p, hp⟩ := Option.isSome_iff_exists.mp hsome
      obtain ⟨old, hold⟩ := robEntryOk_exists_old (h.rob e (by simp)) hp
      rw [writersOf_singleton_of e rfl hp] at hchain
      rw [if_pos ⟨rfl, hsome⟩, hold]
      exact (hchain.of_append hold).2.2.1
    · rw [writersOf_singleton_of_not e fun h => hw ⟨h.1.symm, h.2⟩, List.append_nil] at hchain
      rw [if_neg hw]
      exact hchain

/-- The oldest entry removed. -/
theorem BufsOk.tail {e : Entry} {M' : List Entry} (h : BufsOk bound attached rename icount (e :: E) M)
    (hM : List.Sublist M' M) (hseqs : (E.filter (fun e => e.eaComp)).map (fun e => e.seq) = M'.map (fun l => l.seq))
    (hiq : e.inIq = false) : BufsOk bound attached rename icount E M' where
  rob e' he' := h.rob e' (List.mem_cons_of_mem _ he')
  lsq l hl := h.lsq l (hM.subset hl)
  seqs := hseqs
  icount := by rw [h.icount, List.filter_cons_of_neg (by simp [hiq])]
  chains ha a ha64 := by
    have hchain := h.chains ha a ha64
    rw [writersOf_cons] at hchain
    by_cases hw : e.archreg.toNat = a ∧ e.physreg.isSome = true
    · obtain ⟨rfl, hsome⟩ := hw
      obtain ⟨p, hp⟩ := Option.isSome_iff_exists.mp hsome
      rw [writersOf_singleton_of e rfl hp] at hchain
      exact hchain.of_cons.1
    · rwa [writersOf_singleton_of_not e hw, List.nil_append] at hchain

/-! ### The live entries, one replaced -/

/-- Two entries that differ in their status and their issue-queue slot at most. -/
def SamePlace (e e' : Entry) : Prop :=
  e'.seq = e.seq ∧ e'.eaComp = e.eaComp ∧ e'.archreg = e.archreg ∧ e'.physreg = e.physreg ∧ e'.oldPhysreg = e.oldPhysreg

theorem chainOk_congr {ws ws' : List Entry} {r : Nat} (hphys : ws'.map (fun e => e.physreg) = ws.map (fun e => e.physreg))
    (hold : ws'.map (fun e => e.oldPhysreg) = ws.map (fun e => e.oldPhysreg)) :
    cmapOf ws' r = cmapOf ws r ∧ (ChainOk bound ws r → ChainOk bound ws' r) := by
  have hcmap : cmapOf ws' r = cmapOf ws r := by
    cases ws with
    | nil => rw [List.map_eq_nil_iff.mp hphys]
    | cons w ws =>
      obtain ⟨w', ws', rfl, hw, _⟩ := List.map_eq_cons_iff.mp hold
      exact hw
  refine ⟨hcmap, fun h => ⟨by rw [hcmap, hphys, hold, h.links], h.rename_lt, fun e' he' p hp => ?_⟩⟩
  obtain ⟨e, he, heq⟩ := List.mem_map.mp (hold ▸ List.mem_map.mpr ⟨e', he', rfl⟩)
  exact h.old_lt e he p (heq.trans hp)

section Replace

variable {e e' : Entry} (hsame : SamePlace e e')

include hsame

theorem writersOf_replace (E1 E2 : List Entry) (a : Nat) :
    (writersOf (E1 ++ e' :: E2) a).map (fun e => e.physreg) = (writersOf (E1 ++ e :: E2) a).map (fun e => e.physreg)
      ∧ (writersOf (E1 ++ e' :: E2) a).map (fun e => e.oldPhysreg)
        = (writersOf (E1 ++ e :: E2) a).map (fun e => e.oldPhysreg) := by
  obtain ⟨_, _, harch, hphys, hold⟩ := hsame
  have hone : (writersOf [e'] a).map (fun e => e.physreg) = (writersOf [e] a).map (fun e => e.physreg)
      ∧ (writersOf [e'] a).map (fun e => e.oldPhysreg) = (writersOf [e] a).map (fun e => e.oldPhysreg) := by
    by_cases hw : e.archreg.toNat = a ∧ e.physreg.isSome = true
    · obtain ⟨p, hp⟩ := Option.isSome_iff_exists.mp hw.2
      rw [writersOf_singleton_of e hw.1 hp, writersOf_singleton_of e' (harch ▸ hw.1) (hphys.trans hp)]
      simp [hphys, hold]
    · rw [writersOf_singleton_of_not e hw, writersOf_singleton_of_not e' (by rwa [harch, hphys])]
      exact ⟨rfl, rfl⟩
  simp only [writersOf_append, writersOf_cons _ E2, List.map_append, hone.1, hone.2, and_self]

theorem owns_replace (E1 E2 : List Entry) (b : Bank) (p : Nat) :
    owns (E1 ++ e' :: E2) b p = owns (E1 ++ e :: E2) b p := by
  obtain ⟨_, _, harch, hphys, _⟩ := hsame
  have hcons : ∀ w : Entry, owns (E1 ++ w :: E2) b p = owns E1 b p + (owns [w] b p + owns E2 b p) := fun w => by
    rw [owns_append, ← owns_append [w], List.singleton_append]
  rw [hcons, hcons, owns_singleton, owns_singleton, harch, hphys]

/-- A ROB entry moves on in its status, giving up its issue-queue slot or not. -/
theorem BufsOk.replaceRob {E1 E2 : List Entry} {icount' : Nat}
    (h : BufsOk bound attached rename icount (E1 ++ e :: E2) M) (he' : RobEntryOk e')
    (hiq : icount' + indicator (e.inIq = true) = icount + indicator (e'.inIq = true)) :
    BufsOk bound attached rename icount' (E1 ++ e' :: E2) M where
  rob w hw := by
    obtain hw | rfl | hw := by simpa using hw
    · exact h.rob w (by simp [hw])
    · exact he'
    · exact h.rob w (by simp [hw])
  lsq := h.lsq
  seqs := by
    rw [← h.seqs]
    obtain ⟨hseq, hea, _⟩ := hsame
    cases he : e.eaComp with
    | true => simp [List.filter_append, hea, he, hseq]
    | false => simp [List.filter_append, hea, he]
  icount := by
    have hcount := h.icount
    rw [length_filter_middle] at hcount ⊢
    omega
  chains ha a ha64 := by
    obtain ⟨hphys, hold⟩ := writersOf_replace hsame E1 E2 a
    exact (chainOk_congr hphys hold).2 (h.chains ha a ha64)

/-- An LSQ entry moves on in its status. -/
theorem BufsOk.replaceLsq {M1 M2 : List Entry} (h : BufsOk bound attached rename icount E (M1 ++ e :: M2))
    (he' : LsqEntryOk e') : BufsOk bound attached rename icount E (M1 ++ e' :: M2) where
  rob := h.rob
  lsq w hw := by
    obtain hw | rfl | hw := by simpa using hw
    · exact h.lsq w (by simp [hw])
    · exact he'
    · exact h.lsq w (by simp [hw])
  seqs := by
    rw [h.seqs]
    obtain ⟨hseq, _⟩ := hsame
    simp [hseq]
  icount := h.icount
  chains := h.chains

end Replace

end Bufs

end Sys2Proof.Machine

/-! PROOFS. A squash keeps the invariants (43_rollback.md R260 to R263). -/

namespace Sys2Proof.Machine

open Sys2Proof.Safety

/-! ### The live entries after one squash -/

theorem liveEntries_congr {x y : Context} {b : Buf} (hring : liveSlots (y.ring b) = liveSlots (x.ring b))
    (hentry : ∀ i ∈ liveSlots (x.ring b), y.entry b i = x.entry b i) : liveEntries y b = liveEntries x b := by
  rw [liveEntries, liveEntries, hring]
  exact List.map_congr_left hentry

section One

variable {c : Nat} {s t : State} (h : SquashedOne c s t)

include h

theorem SquashedOne.liveRob (hring : RingOk (s.ctx c).robRing) (hnum : (s.ctx c).robRing.num ≠ 0) :
    liveEntries (s.ctx c) .rob = liveEntries (t.ctx c) .rob ++ [(s.ctx c).youngest] := by
  have hlast := last_not_mem_liveSlots_popTail hring hnum
  rw [liveEntries, Context.ring_rob, liveSlots_eq_append_last hring hnum, List.map_append, List.map_singleton, liveEntries,
    Context.ring_rob, h.robRing]
  congr 1
  exact List.map_congr_left fun i hi => (h.entryRob i fun hil => hlast (hil ▸ hi)).symm

theorem SquashedOne.liveLsq_of_mem (hring : RingOk (s.ctx c).lsqRing) (he : (s.ctx c).youngest.eaComp = true) :
    liveEntries (s.ctx c) .lsq = liveEntries (t.ctx c) .lsq ++ [(s.ctx c).youngestMem] := by
  have hlsq := h.lsqRing
  rw [if_pos he] at hlsq
  rw [liveEntries, Context.ring_lsq, liveSlots_eq_append_last hring (h.partner he).1, List.map_append, List.map_singleton,
    liveEntries, Context.ring_lsq, hlsq]
  congr 1
  exact List.map_congr_left fun i _ => (h.entryLsq i).symm

theorem SquashedOne.liveLsq_of_not_mem (he : (s.ctx c).youngest.eaComp = false) :
    liveEntries (t.ctx c) .lsq = liveEntries (s.ctx c) .lsq := by
  have hlsq := h.lsqRing
  rw [if_neg (by simp [he])] at hlsq
  exact liveEntries_congr (by rw [Context.ring_lsq, hlsq, Context.ring_lsq]) fun i _ => h.entryLsq i

theorem SquashedOne.liveLsq_sublist (hring : RingOk (s.ctx c).lsqRing) :
    List.Sublist (liveEntries (t.ctx c) .lsq) (liveEntries (s.ctx c) .lsq) := by
  cases he : (s.ctx c).youngest.eaComp with
  | true =>
    rw [h.liveLsq_of_mem hring he]
    exact List.sublist_append_left _ _
  | false =>
    rw [h.liveLsq_of_not_mem he]

theorem SquashedOne.attached : (t.ctx c).attached = (s.ctx c).attached := (congrArg Context.attached h.frame.ctx :)

theorem SquashedOne.sameSeat : SameSeat c s t where
  attached := h.attached
  core := h.frame.core
  slot := (congrArg Context.slot h.frame.ctx :)
  robCap := (congrArg (fun x : Context => x.robRing.cap) h.frame.ctx :)
  lsqCap := (congrArg (fun x : Context => x.lsqRing.cap) h.frame.ctx :)
  ifqCap := (congrArg (fun x : Context => x.ifqRing.cap) h.frame.ctx :)
  slotOf := h.frame.slotOf

end One

/-! ### What one squash keeps -/

theorem squashFrame_gen {c : Nat} {s t : State} (h : SquashFrame c s t) (b : Buf) (i : Nat) :
    (t.ctx c).gen b i = (s.ctx c).gen b i := by
  cases b
  · exact (congrArg (fun x : Context => x.gen .rob i) h.ctx :)
  · exact (congrArg (fun x : Context => x.gen .lsq i) h.ctx :)

theorem commits_congr {x y : Context} (h : ∀ a < 64, cmap y a = cmap x a) (b : Bank) (p : Nat) :
    commits y b p = commits x b p := by
  rw [commits, commits]
  congr 1
  exact List.filter_congr fun a ha => by rw [h a (List.mem_range.mp ha)]

theorem EngineSound.core_lt {c : Nat} {s : State} (h : EngineSound s) (hc : c < s.cfg.numContexts)
    (ha : (s.ctx c).attached = true) : (s.ctx c).core < s.cfg.numCores := (h.seat c hc ha).1

/-- No context holds more issue-queue slots than its core counts. -/
theorem EngineSound.icount_le {c : Nat} {s : State} (h : EngineSound s) (hc : c < s.cfg.numContexts)
    (ha : (s.ctx c).attached = true) : (s.ctx c).icount ≤ (s.core (s.ctx c).core).iqCount := by
  rw [h.iqSum _ (h.core_lt hc ha)]
  refine List.le_sum_of_mem (List.mem_map.mpr ⟨c, List.mem_range.mpr hc, onCore_of_attached ha _⟩)

section Squash

variable {c : Nat} {s t : State} (h : EngineSound s) (hc : c < s.cfg.numContexts) (ha : (s.ctx c).attached = true)
  (hnum : (s.ctx c).robRing.num ≠ 0) (hone : SquashedOne c s t)

include h hc ha hnum hone

theorem squashedOne_contextOk : ContextOk s.cfg (t.ctx c) := by
  obtain ⟨hrings, hbufs, _⟩ := h.ctx c hc
  obtain ⟨hrob, hlsq, _⟩ := hrings
  have hlive := hone.liveRob hrob hnum
  refine ⟨squashedOne_rings hone hnum (h.ctx c hc).rings, ?_, fun hdet => ?_⟩
  · rw [hlive] at hbufs
    rw [hone.attached, hone.icount]
    refine hbufs.dropLast (hone.liveLsq_sublist hlsq) ?_ hone.rename
    cases he : (s.ctx c).youngest.eaComp with
    | true =>
      obtain ⟨M', l, hM, _, hseqs⟩ := hbufs.seqs_of_append he
      rw [hone.liveLsq_of_mem hlsq he] at hM
      rw [hseqs, (List.append_inj' hM rfl).1]
    | false =>
      rw [hone.liveLsq_of_not_mem he]
      exact hbufs.seqs_of_append_not he
  · rw [hone.attached, ha] at hdet
    cases hdet

theorem squashedOne_cmap {a : Nat} (ha64 : a < 64) : cmap (t.ctx c) a = cmap (s.ctx c) a := by
  obtain ⟨⟨hrob, _, _⟩, hbufs, _⟩ := h.ctx c hc
  rw [hone.liveRob hrob hnum] at hbufs
  have hchain := hbufs.chains ha a ha64
  rw [cmap_eq, cmap_eq, hone.liveRob hrob hnum, hone.rename, writersOf_append] at *
  by_cases hw : a = (s.ctx c).youngest.archreg.toNat ∧ (s.ctx c).youngest.physreg.isSome = true
  · obtain ⟨rfl, hsome⟩ := hw
    obtain ⟨p, hp⟩ := Option.isSome_iff_exists.mp hsome
    obtain ⟨old, hold⟩ := robEntryOk_exists_old (hbufs.rob _ (by simp)) hp
    rw [writersOf_singleton_of _ rfl hp] at hchain ⊢
    rw [if_pos ⟨rfl, hsome⟩, hold]
    exact (hchain.of_append hold).2.2.2.symm
  · rw [if_neg hw, writersOf_singleton_of_not _ fun h => hw ⟨h.1.symm, h.2⟩, List.append_nil]

theorem squashedOne_queues : QueuesOk t := by
  obtain ⟨⟨hrob, hlsq, _⟩, _, _⟩ := h.ctx c hc
  have hdrop : ∀ (b : Buf) (i : Nat) (l : List Membership), List.Sublist (dropEntry c b i l) l :=
    fun _ _ _ => List.filter_sublist
  refine queuesOk_of_change hone.frame.cfg h.queues hone.frame.ctx_ne (fun k q => ?_) fun q m hm hmc hl => ?_
  · rw [hone.wq]
    split
    · split
      · exact (hdrop _ _ _).trans (hdrop _ _ _)
      · exact hdrop _ _ _
    · exact List.Sublist.refl _
  · rw [hone.wq, if_pos rfl] at hm
    have hnot : ∀ {b : Buf} {i : Nat} {l : List Membership}, m ∈ dropEntry c b i l → ¬(m.buf = b ∧ m.idx = i) ∧ m ∈ l := by
      intro b i l hmem
      obtain ⟨hmem, hno⟩ := List.mem_filter.mp hmem
      refine ⟨?_, hmem⟩
      rintro ⟨rfl, rfl⟩
      simp [Membership.isOf, hmc] at hno
    obtain ⟨hrobNot, hm⟩ := hnot hm
    rw [live_iff_mem (by cases m.buf <;> assumption)] at hl
    obtain ⟨_, hmem, hgen⟩ := hl
    have hrings := squashedOne_rings hone hnum (h.ctx c hc).rings
    rw [live_iff_mem (by cases m.buf <;> [exact hrings.1; exact hrings.2.1]), hone.attached, squashFrame_gen hone.frame]
    refine ⟨⟨ha, ?_, hgen⟩, hone.frame.core, ?_⟩
    · cases hb : m.buf with
      | rob =>
        rw [hb, Context.ring_rob, liveSlots_eq_append_last hrob hnum] at hmem
        rw [Context.ring_rob, hone.robRing]
        refine (List.mem_append.mp hmem).resolve_right fun hlast => hrobNot ⟨hb, List.mem_singleton.mp hlast⟩
      | lsq =>
        rw [hb, Context.ring_lsq] at hmem
        rw [Context.ring_lsq, hone.lsqRing]
        split
        · rw [if_pos ‹_›] at hm
          obtain ⟨hlsqNot, _⟩ := hnot hm
          rw [liveSlots_eq_append_last hlsq (hone.partner ‹_›).1] at hmem
          exact (List.mem_append.mp hmem).resolve_right fun hlast => hlsqNot ⟨hb, List.mem_singleton.mp hlast⟩
        · exact hmem
    · cases hb : m.buf with
      | rob => rw [hone.entryRob m.idx fun hi => hrobNot ⟨hb, hi⟩]
      | lsq => rw [hone.entryLsq]

theorem EngineSound.squashedOne : EngineSound t := by
  obtain ⟨⟨hrob, _, _⟩, hbufs, _⟩ := h.ctx c hc
  have hlive := hone.liveRob hrob hnum
  have hle : (if (s.ctx c).youngest.inIq then 1 else 0) ≤ (s.ctx c).icount := by
    rw [hbufs.icount, hlive, length_filter_middle]
    split <;> simp_all
  have hcap := h.icount_le hc ha
  refine h.of_seated hc ha hone.frame.cfg hone.frame.ctx_ne hone.frame.core_ne hone.sameSeat
    (by rw [hone.frame.cfg]; exact squashedOne_contextOk h hc ha hnum hone) ?_ ?_ (squashedOne_queues h hc ha hnum hone)
    (fun b p _ => ?_) fun b p _ => ?_
  · rw [hone.iqCount, if_pos rfl, hone.icount]
    omega
  · have := h.iqCap _ (h.core_lt hc ha)
    rw [hone.iqCount]
    omega
  · rw [hone.reg, hlive, owns_append, owns_singleton]
    by_cases hown : (s.ctx c).youngest.physreg = some p ∧ bankOf (s.ctx c).youngest.archreg.toNat = b
    · obtain ⟨hp, rfl⟩ := hown
      rw [if_pos ⟨rfl, hp, rfl⟩, hone.alloc p hp, indicator, if_pos ⟨hp, rfl⟩]
      simp only [RegState.allocs]
      omega
    · rw [if_neg fun h => hown h.2, indicator, if_neg hown]
      omega
  · rw [commits_congr fun a ha64 => squashedOne_cmap h hc ha hnum hone ha64, hone.reg]
    split
    · obtain ⟨_, hp, rfl⟩ := ‹_ ∧ _›
      rw [hone.alloc p hp]
      rfl
    · rfl

end Squash

/-- A squash of entries that the ROB holds keeps the invariants. -/
theorem EngineSound.squashMany {c n : Nat} {s t : State} (h : EngineSound s) (hc : c < s.cfg.numContexts)
    (ha : (s.ctx c).attached = true) (hn : n ≤ (s.ctx c).robRing.num) (hsquash : squashMany c n s = .ok t) :
    EngineSound t := by
  refine (squashMany_induct_num (fun u => EngineSound u ∧ c < u.cfg.numContexts ∧ (u.ctx c).attached = true)
    (fun u v hu hnum hone => ?_) hn ⟨h, hc, ha⟩ hsquash).1
  obtain ⟨hu, huc, hua⟩ := hu
  exact ⟨hu.squashedOne huc hua hnum hone, hone.frame.cfg ▸ huc, hone.attached.trans hua⟩

end Sys2Proof.Machine

/-! PROOFS. The commands that write no entry, and those that write the status of one, keep the invariants
(41_queue_model.md, 45_frontend_query.md). -/

namespace Sys2Proof.Machine

open Sys2Proof.Safety

/-! ### Commands that leave the ROBs, the LSQs and the rename tables alone -/

/-- The context without what the invariants do not speak of, and without its fetch queue's indices. -/
def Context.view (x : Context) : Context :=
  { x with ifqRing := ⟨0, 0, 0, x.ifqRing.cap⟩, ifq := [], wreg := [], fetchPc := 0, fetchStallUntil := 0 }

/-- No context differs but in its fetch queue, its working registers and its fetch, no core but in its wakeup queues and the
timestamps of its registers. -/
structure SameView (s t : State) : Prop where
  cfg : t.cfg = s.cfg
  ctx : ∀ c, (t.ctx c).view = (s.ctx c).view
  slotOf : ∀ k n, (t.core k).slotOf n = (s.core k).slotOf n
  iqCount : ∀ k, (t.core k).iqCount = (s.core k).iqCount
  state : ∀ k b p, (t.reg k b p).state = (s.reg k b p).state

namespace SameView

variable {s t : State} (h : SameView s t)

theorem of_updCtx {s : State} {c : Nat} {f : Context → Context} (hf : (f (s.ctx c)).view = (s.ctx c).view) :
    SameView s (s.updCtx c f) :=
  ⟨rfl, State.read_updCtx Context.view hf, fun _ _ => rfl, fun _ => rfl, fun _ _ _ => rfl⟩

include h

theorem liveEntries (c : Nat) (b : Buf) : Safety.liveEntries (t.ctx c) b = Safety.liveEntries (s.ctx c) b := by
  cases b
  · exact (congrArg (fun x => Safety.liveEntries x .rob) (h.ctx c) :)
  · exact (congrArg (fun x => Safety.liveEntries x .lsq) (h.ctx c) :)

theorem live (c : Nat) (b : Buf) (i g : Nat) : t.live c b i g = s.live c b i g := by
  cases b
  · exact (congrArg (fun x : Context => x.attached && (x.ring .rob).isLive i && decide (g = x.gen .rob i)) (h.ctx c) :)
  · exact (congrArg (fun x : Context => x.attached && (x.ring .lsq).isLive i && decide (g = x.gen .lsq i)) (h.ctx c) :)

theorem entry (c : Nat) (b : Buf) (i : Nat) : (t.ctx c).entry b i = (s.ctx c).entry b i := by
  cases b
  · exact (congrArg (fun x : Context => x.entry .rob i) (h.ctx c) :)
  · exact (congrArg (fun x : Context => x.entry .lsq i) (h.ctx c) :)

theorem attached (c : Nat) : (t.ctx c).attached = (s.ctx c).attached := (congrArg Context.attached (h.ctx c) :)

theorem core (c : Nat) : (t.ctx c).core = (s.ctx c).core := (congrArg Context.core (h.ctx c) :)

theorem slot (c : Nat) : (t.ctx c).slot = (s.ctx c).slot := (congrArg Context.slot (h.ctx c) :)

theorem contextOk {c : Nat} (hs : ContextOk s.cfg (s.ctx c)) (hifq : RingOk (t.ctx c).ifqRing)
    (hempty : (t.ctx c).attached = false → (t.ctx c).ifqRing.num = 0) : ContextOk t.cfg (t.ctx c) := by
  obtain ⟨⟨hrob, hlsq, _⟩, hbufs, hdetached⟩ := hs
  have hctx := h.ctx c
  have hrobRing : (t.ctx c).robRing = (s.ctx c).robRing := (congrArg Context.robRing hctx :)
  have hlsqRing : (t.ctx c).lsqRing = (s.ctx c).lsqRing := (congrArg Context.lsqRing hctx :)
  have hrename : (t.ctx c).renameOf = (s.ctx c).renameOf := (congrArg Context.renameOf hctx :)
  have hicount : (t.ctx c).icount = (s.ctx c).icount := (congrArg Context.icount hctx :)
  refine ⟨⟨hrobRing ▸ hrob, hlsqRing ▸ hlsq, hifq⟩, ?_, fun ha => ?_⟩
  · rw [h.liveEntries, h.liveEntries, hrename, hicount, h.cfg, h.attached]
    exact hbufs
  · obtain ⟨hr, hl, _, hi⟩ := hdetached (h.attached c ▸ ha)
    exact ⟨by rw [hrobRing, hr], by rw [hlsqRing, hl], hempty ha, hicount.trans hi⟩

theorem commits (c : Nat) (b : Bank) (p : Nat) : Machine.commits (t.ctx c) b p = Machine.commits (s.ctx c) b p :=
  commits_congr (fun a _ => by
    have hrename : (t.ctx c).renameOf a = (s.ctx c).renameOf a := (congrArg (fun x : Context => x.renameOf a) (h.ctx c) :)
    rw [cmap_eq, cmap_eq, h.liveEntries, hrename]) b p

theorem onCore (c k n : Nat) : Machine.onCore (t.ctx c) k n = Machine.onCore (s.ctx c) k n := by
  rw [Machine.onCore, Machine.onCore, h.attached, h.core]

/-- The invariants go by the view, apart from the fetch queues and the wakeup queues. -/
theorem engineSound (hs : EngineSound s)
    (hifq : ∀ c < s.cfg.numContexts, RingOk (t.ctx c).ifqRing ∧ ((t.ctx c).attached = false → (t.ctx c).ifqRing.num = 0))
    (hqueues : QueuesOk t) : EngineSound t := by
  have hcaps : ∀ c, (t.ctx c).robRing.cap = (s.ctx c).robRing.cap ∧ (t.ctx c).lsqRing.cap = (s.ctx c).lsqRing.cap
      ∧ (t.ctx c).ifqRing.cap = (s.ctx c).ifqRing.cap := fun c =>
    ⟨(congrArg (fun x : Context => x.robRing.cap) (h.ctx c) :), (congrArg (fun x : Context => x.lsqRing.cap) (h.ctx c) :),
      (congrArg (fun x : Context => x.ifqRing.cap) (h.ctx c) :)⟩
  have hicount : ∀ c, (t.ctx c).icount = (s.ctx c).icount := fun c => (congrArg Context.icount (h.ctx c) :)
  refine ⟨fun c hc => ?_, fun c hc ha => ?_, fun k hk n hn => ?_, fun k hk => ?_, fun k hk => ?_, hqueues,
    fun k hk b p hp => ?_, fun k hk b p hp => ?_⟩
  · rw [h.cfg] at hc
    exact h.contextOk (hs.ctx c hc) (hifq c hc).1 (hifq c hc).2
  · rw [h.cfg] at hc
    rw [h.attached] at ha
    have hseat := hs.seat c hc ha
    obtain ⟨hrob, hlsq, hifqCap⟩ := hcaps c
    rw [StandsIn, h.cfg, h.core, h.slot, hrob, hlsq, hifqCap, h.slotOf]
    exact hseat
  · rw [h.cfg] at hk hn
    have hslot := hs.slots k hk n hn
    rw [SlotOk, h.slotOf, h.cfg]
    simpa only [h.attached, h.core, h.slot] using hslot
  · rw [h.cfg] at hk ⊢
    rw [h.iqCount, hs.iqSum k hk]
    simp only [h.onCore, hicount]
  · rw [h.cfg] at hk ⊢
    rw [h.iqCount]
    exact hs.iqCap k hk
  · rw [h.cfg] at hk hp
    rw [h.state, ← hs.owned k hk b p hp, owners_eq, owners_eq, h.cfg]
    simp only [h.onCore, h.liveEntries]
  · rw [h.cfg] at hk hp
    rw [h.state, ← hs.committed k hk b p hp, committers_eq, committers_eq, h.cfg]
    simp only [h.onCore, h.commits]

/-- The wakeup queues, where no membership is added. -/
theorem queuesOk (hq : QueuesOk s) (hsub : ∀ k q, List.Sublist ((t.core k).wq q) ((s.core k).wq q)) : QueuesOk t :=
  queuesOk_of_sublist h.cfg hq hsub fun k q m _ hl hk => ⟨by rwa [h.live], (h.core _).trans hk, by rw [h.entry]⟩

/-- A change outside the view that leaves fetch queues and wakeup queues alone. -/
theorem engineSound_of_same (hs : EngineSound s) (hifq : ∀ c, (t.ctx c).ifqRing = (s.ctx c).ifqRing)
    (hwq : ∀ k q, (t.core k).wq q = (s.core k).wq q) : EngineSound t := by
  refine h.engineSound hs (fun c hc => ?_) (h.queuesOk hs.queues fun k q => hwq k q ▸ List.Sublist.refl _)
  obtain ⟨⟨_, _, hring⟩, _, hdetached⟩ := hs.ctx c hc
  rw [hifq, h.attached]
  exact ⟨hring, fun ha => (hdetached ha).2.2.1⟩

end SameView

/-- An update of the fetch queue of one context. -/
theorem EngineSound.updIfq {s : State} {c : Nat} {f : Context → Context} (hs : EngineSound s) (hc : c < s.cfg.numContexts)
    (hf : (f (s.ctx c)).view = (s.ctx c).view) (hring : RingOk (f (s.ctx c)).ifqRing)
    (hempty : (s.ctx c).attached = false → (f (s.ctx c)).ifqRing.num = 0) : EngineSound (s.updCtx c f) := by
  have hview := SameView.of_updCtx hf
  refine hview.engineSound hs (fun j hj => ?_) (hview.queuesOk hs.queues fun _ _ => List.Sublist.refl _)
  rw [hview.attached, State.updCtx_ctx]
  split
  · subst_vars
    exact ⟨hring, hempty⟩
  · obtain ⟨⟨_, _, hring⟩, _, hdetached⟩ := hs.ctx j hj
    exact ⟨hring, fun ha => (hdetached ha).2.2.1⟩

/-! ### The wakeup queue commands -/

theorem sameView_setWq (s : State) (k : Nat) (q : Queue) (l : List Membership) : SameView s (s.setWq k q l) :=
  ⟨rfl, fun _ => rfl, fun _ _ => State.setWq_core_slotOf s k q l _ _, fun _ => State.setWq_core_iqCount s k q l _,
    fun _ _ _ => congrArg PhysReg.state (State.setWq_reg s k q l _ _ _)⟩

/-- Taking memberships off a queue keeps the invariants. -/
theorem EngineSound.setWq_sublist {s : State} {k : Nat} {q : Queue} {l : List Membership} (hs : EngineSound s)
    (hl : List.Sublist l ((s.core k).wq q)) : EngineSound (s.setWq k q l) := by
  have hview := sameView_setWq s k q l
  refine hview.engineSound hs (fun c hc => ?_) (hview.queuesOk hs.queues fun j q' => ?_)
  · obtain ⟨⟨_, _, hring⟩, _, hdetached⟩ := hs.ctx c hc
    exact ⟨hring, fun ha => (hdetached ha).2.2.1⟩
  · rw [State.setWq_core_wq]
    split
    · obtain ⟨rfl, rfl⟩ := ‹_ ∧ _›
      exact hl
    · exact List.Sublist.refl _

/-- A new membership of a live entry of a context of the core keeps the invariants. -/
theorem EngineSound.wqInsert {s : State} {k : Nat} {q : Queue} {m : Membership} (hs : EngineSound s)
    (hctx : m.ctx < s.cfg.numContexts) (hlive : s.live m.ctx m.buf m.idx m.gen = true) (hcore : (s.ctx m.ctx).core = k)
    (hkey : q = .ready → m.key = ((s.ctx m.ctx).entry m.buf m.idx).seq)
    (hno : ((s.core k).wq q).any (fun m' => m'.isOf m.ctx m.buf m.idx) = false) :
    EngineSound (s.setWq k q ((s.core k).wq q ++ [m])) := by
  have hview := sameView_setWq s k q ((s.core k).wq q ++ [m])
  refine hview.engineSound hs (fun c hc => ?_) fun j hj q' hq' => ?_
  · obtain ⟨⟨_, _, hring⟩, _, hdetached⟩ := hs.ctx c hc
    exact ⟨hring, fun ha => (hdetached ha).2.2.1⟩
  · obtain ⟨hmem, hpairs⟩ := hs.queues j hj q' hq'
    rw [State.setWq_core_wq]
    split
    · obtain ⟨rfl, rfl⟩ := ‹_ ∧ _›
      refine ⟨fun m' hm' => ?_, List.pairwise_append.mpr ⟨hpairs, List.pairwise_singleton _ _, fun m' hm' m'' hm'' => ?_⟩⟩
      · obtain hm' | hm' := List.mem_append.mp hm'
        · exact hmem m' hm'
        · obtain rfl := List.mem_singleton.mp hm'
          exact ⟨hctx, hlive, hcore, hkey⟩
      · obtain rfl := List.mem_singleton.mp hm''
        have := List.any_eq_false.mp hno m' hm'
        rw [Membership.isOf_iff] at this
        exact fun h => this ⟨h.1, h.2.1, h.2.2⟩
    · exact ⟨hmem, hpairs⟩

/-! ### The status commands -/

/-- The entry `(b, i)` of context `c` becomes `e'`, and the counts of the issue queue follow. -/
structure StatusWritten (c : Nat) (b : Buf) (i : Nat) (e' : Entry) (s t : State) : Prop where
  cfg : t.cfg = s.cfg
  ctx_ne : SameCtxsBut c s t
  entry : ∀ b' j, (t.ctx c).entry b' j = if b' = b ∧ j = i then e' else (s.ctx c).entry b' j
  ctx : { t.ctx c with rob := (s.ctx c).rob, lsq := (s.ctx c).lsq, icount := (s.ctx c).icount } = s.ctx c
  core : ∀ k, { t.core k with iqCount := (s.core k).iqCount } = s.core k
  core_ne : SameCoresBut (s.ctx c).core s t
  icount : (t.ctx c).icount + indicator (((s.ctx c).entry b i).inIq = true) = (s.ctx c).icount + indicator (e'.inIq = true)
  iqCount : (t.core (s.ctx c).core).iqCount + (s.ctx c).icount = (s.core (s.ctx c).core).iqCount + (t.ctx c).icount

theorem lsqEntryOk_inIq {l : Entry} (h : LsqEntryOk l) : l.inIq = false := by
  obtain ⟨_, _, _, _, _, _, _, hiq, _⟩ := h
  exact hiq

section Status

variable {c i : Nat} {b : Buf} {e' : Entry} {s t : State} (h : StatusWritten c b i e' s t)

include h

theorem StatusWritten.liveEntries_ne {b' : Buf} (hb : b' ≠ b) : liveEntries (t.ctx c) b' = liveEntries (s.ctx c) b' := by
  have hring : (t.ctx c).ring b' = (s.ctx c).ring b' := by
    cases b'
    · exact (congrArg (fun x : Context => x.ring .rob) h.ctx :)
    · exact (congrArg (fun x : Context => x.ring .lsq) h.ctx :)
  exact liveEntries_congr (by rw [hring]) fun j _ => by rw [h.entry, if_neg fun h => hb h.1]

/-- The live entries with the one written singled out. -/
theorem StatusWritten.liveEntries (hring : RingOk ((s.ctx c).ring b)) (hi : i ∈ liveSlots ((s.ctx c).ring b)) :
    ∃ E1 E2, liveEntries (s.ctx c) b = E1 ++ (s.ctx c).entry b i :: E2 ∧ liveEntries (t.ctx c) b = E1 ++ e' :: E2 := by
  have hringEq : (t.ctx c).ring b = (s.ctx c).ring b := by
    cases b
    · exact (congrArg (fun x : Context => x.ring .rob) h.ctx :)
    · exact (congrArg (fun x : Context => x.ring .lsq) h.ctx :)
  have hnodup := liveSlots_nodup hring
  obtain ⟨A, B, hAB⟩ := List.append_of_mem hi
  rw [hAB] at hnodup
  obtain ⟨_, hB, hdisjoint⟩ := List.nodup_append.mp hnodup
  refine ⟨A.map ((s.ctx c).entry b), B.map ((s.ctx c).entry b), by simp [Safety.liveEntries, hAB], ?_⟩
  have hA : A.map ((t.ctx c).entry b) = A.map ((s.ctx c).entry b) := List.map_congr_left fun j hj => by
    rw [h.entry, if_neg fun heq => hdisjoint j hj i List.mem_cons_self heq.2]
  have hB' : B.map ((t.ctx c).entry b) = B.map ((s.ctx c).entry b) := List.map_congr_left fun j hj => by
    have hji : j ≠ i := fun heq => (List.nodup_cons.mp hB).1 (heq ▸ hj)
    rw [h.entry, if_neg fun heq => hji heq.2]
  rw [Safety.liveEntries, hringEq, hAB, List.map_append, List.map_cons, hA, hB', h.entry, if_pos ⟨rfl, rfl⟩]

theorem StatusWritten.renameOf : (t.ctx c).renameOf = (s.ctx c).renameOf := (congrArg Context.renameOf h.ctx :)

theorem StatusWritten.attached : (t.ctx c).attached = (s.ctx c).attached := (congrArg Context.attached h.ctx :)

/-- What the invariants ask of the buffers of a context whose entry moves on, and what they add up to as before. -/
structure SameSums (cfg : Config.Params) (x y : Context) : Prop where
  bufs : BufsOk cfg.prfBankSize y.attached y.renameOf y.icount (liveEntries y .rob) (liveEntries y .lsq)
  owns : ∀ b p, owns (liveEntries y .rob) b p = owns (liveEntries x .rob) b p
  cmap : ∀ a, cmap y a = cmap x a

theorem StatusWritten.sameSums_rob (hb : b = .rob) (hs : ContextOk s.cfg (s.ctx c)) (hi : i ∈ liveSlots (s.ctx c).robRing)
    (hsame : SamePlace ((s.ctx c).entry b i) e') (hok : RobEntryOk ((s.ctx c).entry b i) → RobEntryOk e') :
    SameSums s.cfg (s.ctx c) (t.ctx c) := by
  subst hb
  obtain ⟨E1, E2, hE, hE'⟩ := h.liveEntries hs.rings.1 hi
  have hbufs := hs.bufs
  rw [hE] at hbufs
  refine ⟨?_, fun b p => by rw [hE, hE', owns_replace hsame], fun a => ?_⟩
  · rw [h.attached, h.renameOf, hE', h.liveEntries_ne (b' := .lsq) nofun]
    exact hbufs.replaceRob hsame (hok (hbufs.rob _ (by simp))) h.icount
  · rw [cmap_eq, cmap_eq, hE, hE', h.renameOf]
    obtain ⟨hphys, hold⟩ := writersOf_replace hsame E1 E2 a
    exact (chainOk_congr (bound := 0) hphys hold).1

theorem StatusWritten.sameSums_lsq (hb : b = .lsq) (hs : ContextOk s.cfg (s.ctx c)) (hi : i ∈ liveSlots (s.ctx c).lsqRing)
    (hsame : SamePlace ((s.ctx c).entry b i) e') (hok : LsqEntryOk ((s.ctx c).entry b i) → LsqEntryOk e') :
    SameSums s.cfg (s.ctx c) (t.ctx c) := by
  subst hb
  obtain ⟨M1, M2, hM, hM'⟩ := h.liveEntries hs.rings.2.1 hi
  have hbufs := hs.bufs
  have hentry := hbufs.lsq ((s.ctx c).entry .lsq i) (by rw [hM]; simp)
  have hicount := h.icount
  rw [lsqEntryOk_inIq hentry, lsqEntryOk_inIq (hok hentry)] at hicount
  have hicount' : (t.ctx c).icount = (s.ctx c).icount := by simpa using hicount
  have hE : Safety.liveEntries (t.ctx c) .rob = Safety.liveEntries (s.ctx c) .rob := h.liveEntries_ne (b' := .rob) nofun
  rw [hM] at hbufs
  refine ⟨?_, fun b p => by rw [hE], fun a => by rw [cmap_eq, cmap_eq, hE, h.renameOf]⟩
  rw [h.attached, h.renameOf, hE, hM', hicount']
  exact hbufs.replaceLsq hsame (hok hentry)

theorem StatusWritten.rings (hs : ContextRingsOk (s.ctx c)) : ContextRingsOk (t.ctx c) := by
  have hctx := h.ctx
  rw [← hctx] at hs
  exact hs

theorem StatusWritten.sameSeat : SameSeat c s t where
  attached := h.attached
  core := (congrArg Context.core h.ctx :)
  slot := (congrArg Context.slot h.ctx :)
  robCap := (congrArg (fun x : Context => x.robRing.cap) h.ctx :)
  lsqCap := (congrArg (fun x : Context => x.lsqRing.cap) h.ctx :)
  ifqCap := (congrArg (fun x : Context => x.ifqRing.cap) h.ctx :)
  slotOf k n := by
    have hcore := congrArg (fun x : Core => x.slotOf n) (h.core k)
    exact hcore

theorem StatusWritten.reg (k : Nat) (b : Bank) (p : Nat) : t.reg k b p = s.reg k b p := by
  rw [State.reg, State.reg, ← h.core k]
  cases b <;> rfl

theorem StatusWritten.wq (k : Nat) (q : Queue) : (t.core k).wq q = (s.core k).wq q := by
  rw [← h.core k]
  cases q <;> rfl

theorem StatusWritten.live (b' : Buf) (j g : Nat) : t.live c b' j g = s.live c b' j g := by
  cases b'
  · exact (congrArg (fun x : Context => x.attached && (x.ring .rob).isLive j && decide (g = x.gen .rob j)) h.ctx :)
  · exact (congrArg (fun x : Context => x.attached && (x.ring .lsq).isLive j && decide (g = x.gen .lsq j)) h.ctx :)

/-- A status that keeps the entry well-formed keeps the invariants. -/
theorem StatusWritten.engineSound (hs : EngineSound s) (hc : c < s.cfg.numContexts) (ha : (s.ctx c).attached = true)
    (hsame : SamePlace ((s.ctx c).entry b i) e') (hsums : SameSums s.cfg (s.ctx c) (t.ctx c))
    (hcap : (t.core (s.ctx c).core).iqCount ≤ (s.core (s.ctx c).core).iqCount) : EngineSound t := by
  refine hs.of_seated hc ha h.cfg h.ctx_ne h.core_ne h.sameSeat ?_ h.iqCount (hcap.trans (hs.iqCap _ (hs.core_lt hc ha))) ?_
    (fun b p _ => by rw [h.reg, hsums.owns]) fun b p _ => by rw [h.reg, commits_congr fun a _ => hsums.cmap a]
  · rw [h.cfg]
    exact ⟨h.rings (hs.ctx c hc).rings, hsums.bufs, fun hdet => by rw [h.attached, ha] at hdet; cases hdet⟩
  · refine queuesOk_of_change h.cfg hs.queues h.ctx_ne (fun k q => by rw [h.wq]) fun q m _ _ hl =>
      ⟨by rwa [h.live], h.sameSeat.core, ?_⟩
    rw [h.entry]
    split
    · obtain ⟨hb, hi⟩ := ‹_ ∧ _›
      obtain ⟨hseq, _⟩ := hsame
      rw [hb, hi, hseq]
    · rfl

end Status

/-- The three status transitions, of an entry of either buffer. -/
theorem EngineSound.status {c i : Nat} {b : Buf} {e' : Entry} {s t : State} (hs : EngineSound s) (hc : c < s.cfg.numContexts)
    (ha : (s.ctx c).attached = true) (hi : i ∈ liveSlots ((s.ctx c).ring b)) (h : StatusWritten c b i e' s t)
    (hsame : SamePlace ((s.ctx c).entry b i) e') (hrob : b = .rob → RobEntryOk ((s.ctx c).entry b i) → RobEntryOk e')
    (hlsq : b = .lsq → LsqEntryOk ((s.ctx c).entry b i) → LsqEntryOk e')
    (hcap : (t.core (s.ctx c).core).iqCount ≤ (s.core (s.ctx c).core).iqCount) : EngineSound t := by
  refine h.engineSound hs hc ha hsame ?_ hcap
  cases hb : b with
  | rob => exact h.sameSums_rob hb (hs.ctx c hc) (by subst hb; exact hi) hsame (hrob hb)
  | lsq => exact h.sameSums_lsq hb (hs.ctx c hc) (by subst hb; exact hi) hsame (hlsq hb)

theorem statusWritten_setEntry {c i : Nat} {b : Buf} {e' : Entry} {s : State}
    (hiq : e'.inIq = ((s.ctx c).entry b i).inIq) : StatusWritten c b i e' s (s.setEntry c b i e') where
  cfg := rfl
  ctx_ne _ hj := State.updCtx_ctx_ne s _ hj
  entry b' j := (State.entry_setEntry s c b i e' c b' j).trans (by simp)
  ctx := by
    have hrest := State.setEntry_ctx_rest s c b i e' c
    have hicount := State.setEntry_ctx_icount s c b i e' c
    rw [← hicount]
    exact hrest
  core _ := rfl
  core_ne _ _ := rfl
  icount := by rw [State.setEntry_ctx_icount, hiq]
  iqCount := by rw [State.setEntry_ctx_icount]; rfl

/-- The entry an ISSUE leaves (41_queue_model.md R191). -/
abbrev Entry.issuedOf (e : Entry) : Entry := { e with issued := true, inIq := false }

theorem statusWritten_issue {c i : Nat} {b : Buf} {s : State} (hs : EngineSound s) (hc : c < s.cfg.numContexts)
    (ha : (s.ctx c).attached = true)
    (hicount : ((s.ctx c).entry b i).inIq = true → (s.ctx c).icount ≠ 0) :
    StatusWritten c b i ((s.ctx c).entry b i).issuedOf s
      (releaseIqSlot c b i (s.setEntry c b i { (s.ctx c).entry b i with issued := true })) := by
  set u := s.setEntry c b i { (s.ctx c).entry b i with issued := true } with hu
  have huentry : (u.ctx c).entry b i = { (s.ctx c).entry b i with issued := true } :=
    (State.entry_setEntry s c b i _ c b i).trans (if_pos ⟨rfl, rfl, rfl⟩)
  have hucore : (u.ctx c).core = (s.ctx c).core := State.setEntry_ctx_core s c b i _ c
  have huicount : (u.ctx c).icount = (s.ctx c).icount := State.setEntry_ctx_icount s c b i _ c
  have hle := hs.icount_le hc ha
  obtain ⟨hcfg, _⟩ := releaseIqSlot_around c b i u
  refine ⟨hcfg, fun j hj => ?_, fun b' j => ?_, ?_, fun k => ?_, fun k hk => ?_, ?_, ?_⟩
  · exact ((SquashFrame.releaseIqSlot b i).ctx_ne j hj).trans (State.updCtx_ctx_ne s _ hj)
  · rw [releaseIqSlot_entry, huentry, State.entry_setEntry]
    by_cases h : b' = b ∧ j = i <;> simp [h]
  · have hrest := releaseIqSlot_ctx_rest c b i u c
    have hrest' := State.setEntry_ctx_rest s c b i { (s.ctx c).entry b i with issued := true } c
    rw [← hu, ← hrest] at hrest'
    rw [← huicount]
    exact hrest'
  · exact releaseIqSlot_core_rest c b i u k
  · exact (SquashFrame.releaseIqSlot b i).core_ne k (hucore.symm ▸ hk)
  · rw [releaseIqSlot_icount, huentry, huicount]
    cases hiq : ((s.ctx c).entry b i).inIq with
    | false => simp
    | true =>
      have := hicount hiq
      simp
      omega
  · rw [releaseIqSlot_icount, releaseIqSlot_iqCount, huentry, huicount, hucore, hu, State.setEntry_core]
    cases hiq : ((s.ctx c).entry b i).inIq with
    | false => simp
    | true =>
      have := hicount hiq
      simp
      omega

theorem Entry.toQueued_spec {e e' : Entry} (h : e.toQueued = some e') : e' = { e with queued := true } := by
  unfold Entry.toQueued at h
  split at h
  · exact (Option.some.inj h).symm
  · cases h

theorem Entry.toIssued_spec {e e' : Entry} (h : e.toIssued = some e') :
    e.queued = true ∧ e.issued = false ∧ e' = { e with issued := true } := by
  unfold Entry.toIssued at h
  split at h
  · obtain ⟨hq, hi⟩ := Bool.and_eq_true_iff.mp ‹_›
    exact ⟨hq, by simpa using hi, (Option.some.inj h).symm⟩
  · cases h

theorem Entry.toCompleted_spec {e e' : Entry} (h : e.toCompleted = some e') :
    e.issued = true ∧ e' = { e with completed := true } := by
  unfold Entry.toCompleted at h
  split at h
  · exact ⟨(Bool.and_eq_true_iff.mp ‹_›).1, (Option.some.inj h).symm⟩
  · cases h

/-- MARK_QUEUED and COMPLETE. -/
theorem EngineSound.setEntry {c i : Nat} {b : Buf} {e' : Entry} {s : State} (hs : EngineSound s)
    (hc : c < s.cfg.numContexts) (ha : (s.ctx c).attached = true) (hi : i ∈ liveSlots ((s.ctx c).ring b))
    (hsame : SamePlace ((s.ctx c).entry b i) e') (hiq : e'.inIq = ((s.ctx c).entry b i).inIq)
    (hrob : RobEntryOk ((s.ctx c).entry b i) → RobEntryOk e') (hlsq : LsqEntryOk ((s.ctx c).entry b i) → LsqEntryOk e') :
    EngineSound (s.setEntry c b i e') :=
  hs.status hc ha hi (statusWritten_setEntry hiq) hsame (fun _ => hrob) (fun _ => hlsq) (Nat.le_refl _)

section Live

variable {s : State} (hs : EngineSound s) {c i g : Nat} {b : Buf} {e' : Entry} (hc : c < s.cfg.numContexts)
  (hlive : s.live c b i g = true)

include hs hc hlive

theorem EngineSound.mem_liveSlots_of_live : (s.ctx c).attached = true ∧ i ∈ liveSlots ((s.ctx c).ring b) := by
  obtain ⟨hrob, hlsq, _⟩ := (hs.ctx c hc).rings
  obtain ⟨ha, hi, _⟩ := (live_iff_mem (by cases b <;> assumption)).mp hlive
  exact ⟨ha, hi⟩

theorem EngineSound.markQueued (he : ((s.ctx c).entry b i).toQueued = some e') : EngineSound (s.setEntry c b i e') := by
  obtain ⟨ha, hi⟩ := hs.mem_liveSlots_of_live hc hlive
  obtain rfl := Entry.toQueued_spec he
  refine hs.setEntry hc ha hi ⟨rfl, rfl, rfl, rfl, rfl⟩ rfl ?_ ?_
  all_goals
    rintro ⟨⟨hd, _, hcomp⟩, hrest⟩
    exact ⟨⟨hd, fun _ => rfl, hcomp⟩, hrest⟩

theorem EngineSound.complete (he : ((s.ctx c).entry b i).toCompleted = some e') : EngineSound (s.setEntry c b i e') := by
  obtain ⟨ha, hi⟩ := hs.mem_liveSlots_of_live hc hlive
  obtain ⟨hissued, rfl⟩ := Entry.toCompleted_spec he
  refine hs.setEntry hc ha hi ⟨rfl, rfl, rfl, rfl, rfl⟩ rfl ?_ ?_
  all_goals
    rintro ⟨⟨hd, hq, _⟩, hrest⟩
    exact ⟨⟨hd, hq, fun _ => hissued⟩, hrest⟩

theorem EngineSound.issue (he : ((s.ctx c).entry b i).toIssued = some e') :
    EngineSound (releaseIqSlot c b i (s.setEntry c b i e')) := by
  obtain ⟨ha, hi⟩ := hs.mem_liveSlots_of_live hc hlive
  obtain ⟨hqueued, hissued, rfl⟩ := Entry.toIssued_spec he
  have hicount : ((s.ctx c).entry b i).inIq = true → (s.ctx c).icount ≠ 0 := by
    intro hiq
    have hbufs := (hs.ctx c hc).bufs
    have hmem : (s.ctx c).entry b i ∈ liveEntries (s.ctx c) b := List.mem_map_of_mem hi
    cases b with
    | rob =>
      rw [hbufs.icount]
      exact Nat.ne_of_gt (List.length_pos_of_mem (List.mem_filter.mpr ⟨hmem, hiq⟩))
    | lsq =>
      rw [lsqEntryOk_inIq (hbufs.lsq _ hmem)] at hiq
      cases hiq
  refine hs.status hc ha hi (statusWritten_issue hs hc ha hicount) ⟨rfl, rfl, rfl, rfl, rfl⟩ (fun _ => ?_) (fun _ => ?_) ?_
  · rintro ⟨⟨hd, _, _⟩, hma, hms, hsm, hea, _, hrest⟩
    exact ⟨⟨hd, fun _ => hqueued, fun _ => rfl⟩, hma, hms, hsm, hea, rfl, hrest⟩
  · rintro ⟨⟨hd, _, _⟩, hp, ho, har, hdf, hea, hsv, _, hrest⟩
    exact ⟨⟨hd, fun _ => hqueued, fun _ => rfl⟩, hp, ho, har, hdf, hea, hsv, rfl, hrest⟩
  · rw [releaseIqSlot_iqCount, State.setEntry_core]
    exact Nat.sub_le _ _

end Live

end Sys2Proof.Machine

/-! PROOFS. DISPATCH keeps the invariants (40_dispatch_rename.md R154). -/

namespace Sys2Proof.Machine

open Sys2Proof.Safety Sys2Proof.Config

/-! ### The live entries after a DISPATCH -/

section Dispatched

variable (x : Context) (kl : OpClass) (p : DispatchWords) (seq : Word) (dest : Option (Nat × Nat))

theorem Context.dispatched_liveRob (hring : RingOk x.robRing) (hroom : x.robRing.num ≠ x.robRing.cap) :
    liveEntries (x.dispatched kl p seq dest) .rob = liveEntries x .rob ++ [robEntryOf kl p seq dest] := by
  have htail := tail_not_mem_liveSlots hring hroom
  rw [liveEntries, Context.ring_rob, Context.dispatched_robRing, liveSlots_pushTail hring, List.map_append,
    List.map_singleton, Context.dispatched_entry_rob, if_pos rfl, liveEntries, Context.ring_rob]
  congr 1
  refine List.map_congr_left fun i hi => ?_
  have hne : i ≠ x.robRing.tail := fun h => htail (h ▸ hi)
  rw [Context.dispatched_entry_rob, if_neg hne]

theorem Context.dispatched_liveLsq (hring : RingOk x.lsqRing) (hroom : isMem kl = true → x.lsqRing.num ≠ x.lsqRing.cap) :
    liveEntries (x.dispatched kl p seq dest) .lsq
      = liveEntries x .lsq ++ if isMem kl then [lsqEntryOf kl p seq] else [] := by
  cases hmem : isMem kl with
  | true =>
    have htail := tail_not_mem_liveSlots hring (hroom hmem)
    rw [liveEntries, Context.ring_lsq, Context.dispatched_lsqRing, if_pos hmem, liveSlots_pushTail hring, List.map_append,
      List.map_singleton, Context.dispatched_entry_lsq _ _ _ _ _ hmem, if_pos rfl, liveEntries, Context.ring_lsq, if_pos rfl]
    congr 1
    refine List.map_congr_left fun i hi => ?_
    have hne : i ≠ x.lsqRing.tail := fun h => htail (h ▸ hi)
    rw [Context.dispatched_entry_lsq _ _ _ _ _ hmem, if_neg hne]
  | false =>
    obtain ⟨hlsq, _, hlsqRing⟩ := x.dispatched_lsq_of_not_mem kl p seq dest hmem
    rw [if_neg (by decide), List.append_nil]
    refine liveEntries_congr (by rw [Context.ring_lsq, hlsqRing, Context.ring_lsq]) fun i _ => ?_
    exact congrArg (Table.get Entry.blank · i) hlsq

end Dispatched

/-! ### The new entries are well-formed -/

/-- What a DISPATCH with a destination takes: the lowest FREE register and the mapping of its architected register. -/
theorem destOf_eq_some {s : State} {c : BitVec 8} {p : DispatchWords} {d : Nat × Nat} (hd : destOf s c p = some d) : (classify s.cfg p.opcode).dest ≠ .none
    ∧ s.findFree (s.ctx c.toNat).core (bankOf p.archreg.toNat) = some d.1
    ∧ d.2 = (s.ctx c.toNat).renameOf p.archreg.toNat := by
  unfold destOf at hd
  split at hd
  · cases hd
  · obtain ⟨q, hq, rfl⟩ := Option.map_eq_some_iff.mp hd
    exact ⟨‹_›, hq, rfl⟩

section NewEntries

variable {s : State} {c : BitVec 8} {p : DispatchWords} (h : Dispatchable s c p)

include h

theorem destOf_isSome_iff : (destOf s c p).isSome = true ↔ (classify s.cfg p.opcode).dest ≠ .none := by
  obtain ⟨_, _, _, _, _, _, _, _, hfree⟩ := h
  unfold destOf
  split
  · simp [*]
  · rw [Option.isSome_map]
    exact ⟨fun _ => ‹_›, fun hdest => hfree hdest⟩

theorem archreg_lt_of_dispatchable (hdest : (classify s.cfg p.opcode).dest ≠ .none) : p.archreg.toNat < 64 := by
  obtain ⟨_, _, _, hfits, _⟩ := h
  cases hk : (classify s.cfg p.opcode).dest with
  | none => exact absurd hk hdest
  | int =>
    rw [hk] at hfits
    have : p.archreg.toNat < 32 := of_decide_eq_true hfits
    omega
  | fp =>
    rw [hk] at hfits
    obtain ⟨_, hlt⟩ := Bool.and_eq_true_iff.mp hfits
    exact of_decide_eq_true hlt

/-- The architected register of the new entry, where it has a destination. -/
theorem robEntryOf_archreg (seq : Word) (dest : Option (Nat × Nat)) (hdest : (classify s.cfg p.opcode).dest ≠ .none) :
    (robEntryOf (classify s.cfg p.opcode) p seq dest).archreg.toNat = p.archreg.toNat := by
  have hlt := archreg_lt_of_dispatchable h hdest
  simp only [robEntryOf, if_neg hdest, BitVec.toNat_setWidth]
  exact Nat.mod_eq_of_lt hlt

theorem robEntryOk_robEntryOf (seq : Word) :
    RobEntryOk (robEntryOf (classify s.cfg p.opcode) p seq (destOf s c p)) := by
  have hsome := destOf_isSome_iff h
  have harch := robEntryOf_archreg h seq (destOf s c p)
  obtain ⟨_, _, _, hfits, _⟩ := h
  refine ⟨⟨rfl, nofun, nofun⟩, rfl, rfl, rfl, rfl, rfl, ?_, ?_, fun hint => ?_, fun hfp => ?_⟩
  · refine Iff.trans (iff_of_eq (congrArg (· = true) ?_)) hsome
    exact Option.isSome_map ..
  · exact (Option.isSome_map ..).trans (Option.isSome_map ..).symm
  · have hint : (classify s.cfg p.opcode).dest = .int := hint
    rw [harch (by rw [hint]; nofun)]
    rw [hint] at hfits
    exact of_decide_eq_true hfits
  · have hfp : (classify s.cfg p.opcode).dest = .fp := hfp
    rw [harch (by rw [hfp]; nofun)]
    rw [hfp] at hfits
    exact of_decide_eq_true (Bool.and_eq_true_iff.mp hfits).1

theorem lsqEntryOk_lsqEntryOf (hmem : isMem (classify s.cfg p.opcode) = true) (seq : Word) :
    LsqEntryOk (lsqEntryOf (classify s.cfg p.opcode) p seq) := by
  obtain ⟨_, _, _, _, hsize, _⟩ := h
  refine ⟨⟨rfl, nofun, nofun⟩, rfl, rfl, rfl, rfl, rfl, rfl, rfl, ?_, hmem, fun hstore => ?_⟩
  · have hsizes : p.memSize = 1 ∨ p.memSize = 2 ∨ p.memSize = 4 ∨ p.memSize = 8 := by
      simpa [sizeLegal, or_assoc] using hsize hmem
    have hset : (lsqEntryOf (classify s.cfg p.opcode) p seq).memSize = p.memSize.setWidth 4 := rfl
    rw [hset]
    obtain h | h | h | h := hsizes <;> rw [h] <;> decide
  · exact if_neg (by rw [show (classify s.cfg p.opcode).isStore = false from hstore]; decide)

end NewEntries

/-! ### DISPATCH -/

theorem Context.dispatched_renameOf (x : Context) (kl : OpClass) (p : DispatchWords) (seq : Word) (dest : Option (Nat × Nat))
    (a : Nat) : (x.dispatched kl p seq dest).renameOf a
      = if dest.isSome = true ∧ a = p.archreg.toNat then (dest.map Prod.fst).getD 0 else x.renameOf a := by
  rw [Context.renameOf, Context.dispatched_rename]
  cases dest with
  | none => simp [renamed, Context.renameOf]
  | some d => simp [renamed, Table.get_put, Context.renameOf]

section Dispatch

variable {s : State} (hs : EngineSound s) {c : BitVec 8} {p : DispatchWords} (h : Dispatchable s c p)

/-- The new ROB entry. -/
abbrev newRobEntry (s : State) (c : BitVec 8) (p : DispatchWords) : Entry :=
  robEntryOf (classify s.cfg p.opcode) p s.eng.nextSeq (destOf s c p)

theorem dispatchWrite_ctx_eq (s : State) (c : BitVec 8) (p : DispatchWords) :
    (dispatchWrite c.toNat (classify s.cfg p.opcode) p s).ctx c.toNat
      = (s.ctx c.toNat).dispatched (classify s.cfg p.opcode) p s.eng.nextSeq (destOf s c p) := by
  rw [dispatchWrite_ctx_same, takes_eq_destOf]

/-- The destination of the new entry, in terms of what the DISPATCH takes. -/
theorem newRobEntry_physreg_iff {q : Nat} : (newRobEntry s c p).physreg = some q ↔ ∃ d, destOf s c p = some d ∧ d.1 = q :=
  Option.map_eq_some_iff

theorem newRobEntry_isSome : (newRobEntry s c p).physreg.isSome = (destOf s c p).isSome := Option.isSome_map ..

theorem dispatched_sameSeat (s : State) (c : BitVec 8) (p : DispatchWords) :
    SameSeat c.toNat s (dispatchWrite c.toNat (classify s.cfg p.opcode) p s) := by
  have hlsqCap : ((s.ctx c.toNat).dispatched (classify s.cfg p.opcode) p s.eng.nextSeq (destOf s c p)).lsqRing.cap
      = (s.ctx c.toNat).lsqRing.cap := by
    rw [Context.dispatched_lsqRing]
    split <;> rfl
  refine ⟨?_, ?_, ?_, ?_, ?_, ?_, dispatchWrite_slotOf _ _ _ _⟩ <;> rw [dispatchWrite_ctx_eq]
  · exact Context.dispatched_attached ..
  · exact Context.dispatched_core ..
  · exact Context.dispatched_slot ..
  · rw [Context.dispatched_robRing]
    rfl
  · exact hlsqCap
  · rw [Context.dispatched_ifqRing]

include h

theorem newRobEntry_archreg (hsome : (destOf s c p).isSome = true) : (newRobEntry s c p).archreg.toNat = p.archreg.toNat :=
  robEntryOf_archreg h _ _ ((destOf_isSome_iff h).mp hsome)

theorem dispatched_renameOf_other {a : Nat}
    (ha : ¬((newRobEntry s c p).archreg.toNat = a ∧ (newRobEntry s c p).physreg.isSome = true)) :
    ((s.ctx c.toNat).dispatched (classify s.cfg p.opcode) p s.eng.nextSeq (destOf s c p)).renameOf a
      = (s.ctx c.toNat).renameOf a := by
  rw [Context.dispatched_renameOf, if_neg]
  rintro ⟨hsome, rfl⟩
  exact ha ⟨newRobEntry_archreg h hsome, newRobEntry_isSome.trans hsome⟩

/-- The link the new entry adds to the rename chain of its architected register. -/
theorem newRobEntry_link {q : Nat} (hq : (newRobEntry s c p).physreg = some q) :
    (newRobEntry s c p).oldPhysreg = some ((s.ctx c.toNat).renameOf (newRobEntry s c p).archreg.toNat)
      ∧ ((s.ctx c.toNat).dispatched (classify s.cfg p.opcode) p s.eng.nextSeq (destOf s c p)).renameOf
          (newRobEntry s c p).archreg.toNat = q ∧ q < s.cfg.prfBankSize := by
  obtain ⟨d, hd, rfl⟩ := newRobEntry_physreg_iff.mp hq
  have hsome : (destOf s c p).isSome = true := by rw [hd]; rfl
  obtain ⟨_, hfind, hold⟩ := destOf_eq_some hd
  rw [newRobEntry_archreg h hsome, Context.dispatched_renameOf, if_pos ⟨hsome, rfl⟩, ← hold]
  refine ⟨?_, by rw [hd]; rfl, ((State.findFree_some _ _ _ _).mp hfind).1⟩
  simp [newRobEntry, robEntryOf, hd]

include hs

theorem dispatched_bufsOk : BufsOk s.cfg.prfBankSize (s.ctx c.toNat).attached
    ((s.ctx c.toNat).dispatched (classify s.cfg p.opcode) p s.eng.nextSeq (destOf s c p)).renameOf
    ((s.ctx c.toNat).icount + 1) (liveEntries (s.ctx c.toNat) .rob ++ [newRobEntry s c p])
    (liveEntries (s.ctx c.toNat) .lsq ++ if isMem (classify s.cfg p.opcode)
      then [lsqEntryOf (classify s.cfg p.opcode) p s.eng.nextSeq] else []) := by
  refine (hs.ctx c.toNat h.2.1).bufs.append (robEntryOk_robEntryOf h _) (fun l hl => ?_) ?_ rfl
    (fun q hq => newRobEntry_link h hq) fun a ha => dispatched_renameOf_other h ha
  · split at hl
    · obtain rfl := List.mem_singleton.mp hl
      exact lsqEntryOk_lsqEntryOf h ‹_› _
    · cases hl
  · have hea : (newRobEntry s c p).eaComp = isMem (classify s.cfg p.opcode) := rfl
    cases hmem : isMem (classify s.cfg p.opcode) with
    | true =>
      rw [List.filter_cons_of_pos (hea.trans hmem)]
      rfl
    | false =>
      rw [List.filter_cons_of_neg (by rw [hea, hmem]; decide)]
      rfl

theorem dispatched_liveRob : liveEntries ((dispatchWrite c.toNat (classify s.cfg p.opcode) p s).ctx c.toNat) .rob
    = liveEntries (s.ctx c.toNat) .rob ++ [newRobEntry s c p] := by
  obtain ⟨_, hc, _, _, _, hrob, _⟩ := h
  rw [dispatchWrite_ctx_eq]
  exact Context.dispatched_liveRob _ _ _ _ _ (hs.ctx c.toNat hc).rings.1 hrob

theorem dispatched_liveLsq : liveEntries ((dispatchWrite c.toNat (classify s.cfg p.opcode) p s).ctx c.toNat) .lsq
    = liveEntries (s.ctx c.toNat) .lsq ++ if isMem (classify s.cfg p.opcode)
      then [lsqEntryOf (classify s.cfg p.opcode) p s.eng.nextSeq] else [] := by
  obtain ⟨_, hc, _, _, _, _, hlsq, _⟩ := h
  rw [dispatchWrite_ctx_eq]
  exact Context.dispatched_liveLsq _ _ _ _ _ (hs.ctx c.toNat hc).rings.2.1 hlsq

/-- A DISPATCH changes no committed mapping. -/
theorem dispatched_cmap {a : Nat} (ha64 : a < 64) :
    cmap ((dispatchWrite c.toNat (classify s.cfg p.opcode) p s).ctx c.toNat) a = cmap (s.ctx c.toNat) a := by
  rw [cmap_eq, cmap_eq, dispatched_liveRob hs h, dispatchWrite_ctx_eq, writersOf_append]
  by_cases hw : (newRobEntry s c p).archreg.toNat = a ∧ (newRobEntry s c p).physreg.isSome = true
  · obtain ⟨rfl, hsome⟩ := hw
    obtain ⟨q, hq⟩ := Option.isSome_iff_exists.mp hsome
    obtain ⟨hold, hren, hlt⟩ := newRobEntry_link h hq
    rw [writersOf_singleton_of _ rfl hq, hren]
    exact (((hs.ctx c.toNat h.2.1).bufs.chains h.2.2.1 _ ha64).append hold hq hlt).2
  · rw [writersOf_singleton_of_not _ hw, List.append_nil, dispatched_renameOf_other h hw]

theorem dispatched_queues : QueuesOk (dispatchWrite c.toNat (classify s.cfg p.opcode) p s) := by
  obtain ⟨hcfg, _⟩ := dispatchWrite_around c.toNat (classify s.cfg p.opcode) p s
  have hrings := (hs.ctx c.toNat h.2.1).rings
  have hrings' := dispatched_rings h hrings
  obtain ⟨_, _, ha, _, _, hrob, hlsq, _⟩ := h
  obtain ⟨hrobRing, hlsqRing, _⟩ := hrings
  have hrobTail := tail_not_mem_liveSlots hrobRing hrob
  refine queuesOk_of_change hcfg hs.queues (fun j hj => dispatchWrite_ctx_ne _ _ _ _ hj)
    (fun k q => (dispatchWrite_wq c.toNat _ p s k q).symm ▸ List.Sublist.refl _) fun q m _ _ hl => ?_
  rw [live_iff_mem (by cases m.buf <;> assumption)] at hl
  rw [live_iff_mem (by cases m.buf <;> [exact hrings'.1; exact hrings'.2.1]), dispatchWrite_ctx_eq]
  obtain ⟨_, hi, hgen⟩ := hl
  rw [Context.dispatched_attached, Context.dispatched_core]
  cases hb : m.buf with
  | rob =>
    rw [hb] at hi hgen
    have hne : m.idx ≠ (s.ctx c.toNat).robRing.tail := fun h => hrobTail (h ▸ hi)
    rw [Context.ring_rob, Context.dispatched_robRing, liveSlots_pushTail hrobRing, Context.dispatched_gen_rob, if_neg hne,
      Context.dispatched_entry_rob, if_neg hne]
    exact ⟨⟨ha, List.mem_append_left _ hi, hgen⟩, rfl, rfl⟩
  | lsq =>
    rw [hb] at hi hgen
    cases hmem : isMem (classify s.cfg p.opcode) with
    | true =>
      have hne : m.idx ≠ (s.ctx c.toNat).lsqRing.tail := fun h => tail_not_mem_liveSlots hlsqRing (hlsq hmem) (h ▸ hi)
      rw [Context.ring_lsq, Context.dispatched_lsqRing, if_pos hmem, liveSlots_pushTail hlsqRing,
        Context.dispatched_gen_lsq _ _ _ _ _ hmem, if_neg hne, Context.dispatched_entry_lsq _ _ _ _ _ hmem, if_neg hne]
      exact ⟨⟨ha, List.mem_append_left _ hi, hgen⟩, rfl, rfl⟩
    | false =>
      obtain ⟨hlsqEq, hgenEq, hringEq⟩ :=
        Context.dispatched_lsq_of_not_mem (s.ctx c.toNat) _ p s.eng.nextSeq (destOf s c p) hmem
      rw [Context.ring_lsq, hringEq]
      exact ⟨⟨ha, hi, hgen.trans (congrArg (Table.get 0 · m.idx) hgenEq).symm⟩, rfl,
        congrArg (fun l => (Table.get Entry.blank l m.idx).seq) hlsqEq⟩

omit hs in
/-- The register a DISPATCH takes was FREE and becomes ALLOC; every other register is as before. -/
theorem dispatched_reg_state (k : Nat) (b : Bank) (r : Nat) :
    (((newRobEntry s c p).physreg = some r ∧ bankOf (newRobEntry s c p).archreg.toNat = b) ∧ k = (s.ctx c.toNat).core →
      (s.reg k b r).state = .free ∧ ((dispatchWrite c.toNat (classify s.cfg p.opcode) p s).reg k b r).state = .alloc)
    ∧ (¬((newRobEntry s c p).physreg = some r ∧ bankOf (newRobEntry s c p).archreg.toNat = b) →
      (dispatchWrite c.toNat (classify s.cfg p.opcode) p s).reg k b r = s.reg k b r) := by
  rw [dispatchWrite_reg, takes_eq_destOf]
  constructor
  · rintro ⟨⟨hr, rfl⟩, rfl⟩
    obtain ⟨d, hd, rfl⟩ := newRobEntry_physreg_iff.mp hr
    have hsome : (destOf s c p).isSome = true := by rw [hd]; rfl
    obtain ⟨_, hfind, _⟩ := destOf_eq_some hd
    rw [newRobEntry_archreg h hsome, if_pos ⟨rfl, rfl, by rw [hd]; rfl⟩]
    exact ⟨(State.isFree_eq_true_iff _ _ _ _).mp ((State.findFree_some _ _ _ _).mp hfind).2.1, rfl⟩
  · intro hno
    rw [if_neg]
    rintro ⟨_, rfl, hr⟩
    obtain ⟨d, hd, rfl⟩ := Option.map_eq_some_iff.mp hr
    exact hno ⟨newRobEntry_physreg_iff.mpr ⟨d, hd, rfl⟩, congrArg bankOf (newRobEntry_archreg h (by rw [hd]; rfl))⟩

theorem EngineSound.dispatch : EngineSound (dispatchWrite c.toNat (classify s.cfg p.opcode) p s) := by
  have hc := h.2.1
  have ha := h.2.2.1
  obtain ⟨hcfg, _⟩ := dispatchWrite_around c.toNat (classify s.cfg p.opcode) p s
  have hicount : ((dispatchWrite c.toNat (classify s.cfg p.opcode) p s).ctx c.toNat).icount = (s.ctx c.toNat).icount + 1 := by
    rw [dispatchWrite_ctx_eq, Context.dispatched_icount]
  have hattached := (dispatched_sameSeat s c p).attached
  refine hs.of_seated hc ha hcfg (fun j hj => dispatchWrite_ctx_ne _ _ _ _ hj) (fun j hj => dispatchWrite_core_ne _ _ _ _ hj)
    (dispatched_sameSeat s c p) ⟨dispatched_rings h (hs.ctx _ hc).rings, ?_, fun hdet => ?_⟩ ?_ ?_ (dispatched_queues hs h)
    (fun b r _ => ?_) fun b r _ => ?_
  · rw [dispatched_liveRob hs h, dispatched_liveLsq hs h, hcfg, hattached, hicount, dispatchWrite_ctx_eq]
    exact dispatched_bufsOk hs h
  · rw [hattached, ha] at hdet
    cases hdet
  · rw [dispatchWrite_iqCount, if_pos rfl, hicount]
    omega
  · have hle := hs.iqCap _ (hs.core_lt hc ha)
    obtain ⟨_, _, _, _, _, _, _, hiq, _⟩ := h
    rw [dispatchWrite_iqCount, if_pos rfl]
    omega
  · rw [dispatched_liveRob hs h, owns_append, owns_singleton]
    obtain ⟨hyes, hno⟩ := dispatched_reg_state h (s.ctx c.toNat).core b r
    by_cases hown : (newRobEntry s c p).physreg = some r ∧ bankOf (newRobEntry s c p).archreg.toNat = b
    · obtain ⟨hfree, halloc⟩ := hyes ⟨hown, rfl⟩
      rw [hfree, halloc, indicator, if_pos hown]
      simp only [RegState.allocs]
      omega
    · rw [hno hown, indicator, if_neg hown]
      omega
  · rw [commits_congr fun a ha64 => dispatched_cmap hs h ha64]
    obtain ⟨hyes, hno⟩ := dispatched_reg_state h (s.ctx c.toNat).core b r
    by_cases hown : (newRobEntry s c p).physreg = some r ∧ bankOf (newRobEntry s c p).archreg.toNat = b
    · obtain ⟨hfree, halloc⟩ := hyes ⟨hown, rfl⟩
      rw [hfree, halloc]
      rfl
    · rw [hno hown]

end Dispatch

end Sys2Proof.Machine

/-! PROOFS. COMMIT keeps the invariants (42_commit.md R230, 10_state.md R61). -/

namespace Sys2Proof.Machine

open Sys2Proof.Safety

/-! ### The committed mappings, one of them moved on -/

theorem commits_eq_sum (x : Context) (b : Bank) (p : Nat) :
    commits x b p = ((List.range 64).map (fun a => indicator (bankOf a = b ∧ cmap x a = some p))).sum := by
  rw [commits, length_filter_eq_sum]
  simp [indicator]

/-- Of two contexts that differ in one committed mapping. -/
theorem commits_swap {x y : Context} {a₀ : Nat} (ha₀ : a₀ < 64) (h : ∀ a < 64, a ≠ a₀ → cmap y a = cmap x a) (b : Bank)
    (p : Nat) : commits x b p + indicator (bankOf a₀ = b ∧ cmap y a₀ = some p)
      = commits y b p + indicator (bankOf a₀ = b ∧ cmap x a₀ = some p) := by
  rw [commits_eq_sum, commits_eq_sum, List.map_congr_left (g := fun a =>
    if a = a₀ then indicator (bankOf a₀ = b ∧ cmap y a₀ = some p) else indicator (bankOf a = b ∧ cmap x a = some p)) (l := List.range 64)
    (f := fun a => indicator (bankOf a = b ∧ cmap y a = some p)) fun a ha => ?_]
  · have := sum_range_swap (n := 64) (c := a₀) (f := fun a => indicator (bankOf a = b ∧ cmap x a = some p))
      (g := fun a => if a = a₀ then indicator (bankOf a₀ = b ∧ cmap y a₀ = some p)
        else indicator (bankOf a = b ∧ cmap x a = some p)) ha₀ fun a ha => (if_neg ha).symm
    simpa using this
  · split
    · rw [‹a = a₀›]
    · rw [h a (List.mem_range.mp ha) ‹_›]

/-- The register step in numbers: the entry's register goes from ALLOC to ARCHITECTED, the displaced one from ARCHITECTED to
FREE. -/
theorem commitReg_counts {k : Nat} {e : Entry} {s s' : State} (h : commitReg k e s = .ok s') (b : Bank) (p : Nat) :
    (s'.reg k b p).state.allocs + indicator (e.physreg = some p ∧ bankOf e.archreg.toNat = b) = (s.reg k b p).state.allocs
      ∧ (s'.reg k b p).state.architects + indicator (bankOf e.archreg.toNat = b ∧ e.physreg.isSome = true ∧ e.oldPhysreg = some p)
        = (s.reg k b p).state.architects + indicator (bankOf e.archreg.toNat = b ∧ e.physreg = some p) := by
  rw [(commitReg_spec h).2]
  obtain ⟨hnone, rfl⟩ | ⟨q, old, hq, hold, halloc, harch, rfl⟩ := commitReg_ok k e s s' h
  · simp [hnone, indicator]
  · rw [hq, hold]
    have hne : q ≠ old := by
      rintro rfl
      rw [halloc] at harch
      cases harch
    by_cases hb : bankOf e.archreg.toNat = b
    · subst hb
      by_cases hpq : q = p
      · subst hpq
        simp [indicator, RegState.allocs, RegState.architects, halloc, hne.symm]
      · by_cases hpo : old = p
        · subst hpo
          simp [indicator, RegState.allocs, RegState.architects, harch, hne]
        · simp [indicator, hpq, hpo]
    · simp [indicator, hb, Ne.symm hb]

/-! ### The live entries after the removal of the head -/

/-- The oldest ROB entry of a context. -/
abbrev Context.oldest (x : Context) : Entry := x.entry .rob x.robRing.head

section Commit

variable {c : Nat} {s s1 : State} (h : EngineSound s) (hc : c < s.cfg.numContexts)
  (ha : (s.ctx c).attached = true) (hnum : (s.ctx c).robRing.num ≠ 0) (hcompleted : (s.ctx c).oldest.completed = true)
  (hpartner : partnerCheck (s.ctx c) (s.ctx c).oldest = .ready)
  (hreg : commitReg (s.ctx c).core (s.ctx c).oldest s = .ok s1)

include hreg

theorem committed_ctx : (retireHead c (s.ctx c).oldest s1).ctx c = { s.ctx c with
    robRing := (s.ctx c).robRing.popHead
    lsqRing := if (s.ctx c).oldest.eaComp then (s.ctx c).lsqRing.popHead else (s.ctx c).lsqRing } := by
  rw [retireHead_ctx_same, (commitReg_spec hreg).1.ctx]

theorem committed_sameSeat : SameSeat c s (retireHead c (s.ctx c).oldest s1) := by
  have hctx := committed_ctx hreg
  refine ⟨(congrArg Context.attached hctx :), (congrArg Context.core hctx :), (congrArg Context.slot hctx :),
    (congrArg (fun x : Context => x.robRing.cap) hctx :), ?_, (congrArg (fun x : Context => x.ifqRing.cap) hctx :),
    fun k n => ?_⟩
  · rw [hctx]
    cases (s.ctx c).oldest.eaComp <;> rfl
  · rw [retireHead_slotOf, (commitReg_spec hreg).1.slotOf]

theorem committed_liveRob (hring : RingOk (s.ctx c).robRing) (hnum : (s.ctx c).robRing.num ≠ 0) :
    liveEntries (s.ctx c) .rob = (s.ctx c).oldest :: liveEntries ((retireHead c (s.ctx c).oldest s1).ctx c) .rob := by
  rw [liveEntries, Context.ring_rob, liveSlots_eq_head_cons hring hnum, List.map_cons, committed_ctx hreg]
  rfl

theorem committed_liveLsq_of_mem (hring : RingOk (s.ctx c).lsqRing) (hnum : (s.ctx c).lsqRing.num ≠ 0)
    (he : (s.ctx c).oldest.eaComp = true) : liveEntries (s.ctx c) .lsq
      = (s.ctx c).entry .lsq (s.ctx c).lsqRing.head :: liveEntries ((retireHead c (s.ctx c).oldest s1).ctx c) .lsq := by
  rw [liveEntries, Context.ring_lsq, liveSlots_eq_head_cons hring hnum, List.map_cons, committed_ctx hreg, he]
  rfl

theorem committed_liveLsq_of_not_mem (he : (s.ctx c).oldest.eaComp = false) :
    liveEntries ((retireHead c (s.ctx c).oldest s1).ctx c) .lsq = liveEntries (s.ctx c) .lsq := by
  rw [committed_ctx hreg, he]
  rfl

theorem committed_gen (b : Buf) (i : Nat) :
    ((retireHead c (s.ctx c).oldest s1).ctx c).gen b i = (s.ctx c).gen b i := by
  rw [committed_ctx hreg]
  cases b <;> rfl

theorem committed_entry (b : Buf) (i : Nat) :
    ((retireHead c (s.ctx c).oldest s1).ctx c).entry b i = (s.ctx c).entry b i := by
  rw [committed_ctx hreg]
  cases b <;> rfl

include h hc hnum

/-- The displaced mapping of the oldest entry is the committed mapping before the COMMIT. -/
theorem cmap_oldest {q : Nat} (hq : (s.ctx c).oldest.physreg = some q) :
    cmap (s.ctx c) (s.ctx c).oldest.archreg.toNat = (s.ctx c).oldest.oldPhysreg := by
  obtain ⟨⟨hrob, _, _⟩, _, _⟩ := h.ctx c hc
  rw [cmap_eq, committed_liveRob hreg hrob hnum, writersOf_cons, writersOf_singleton_of _ rfl hq]
  rfl

include ha

/-- COMMIT makes the entry's register the committed mapping of the one it writes, and changes no other. -/
theorem committed_cmap {a : Nat} (ha64 : a < 64) :
    cmap ((retireHead c (s.ctx c).oldest s1).ctx c) a
      = if (s.ctx c).oldest.archreg.toNat = a ∧ (s.ctx c).oldest.physreg.isSome = true then (s.ctx c).oldest.physreg
        else cmap (s.ctx c) a := by
  obtain ⟨⟨hrob, _, _⟩, hbufs, _⟩ := h.ctx c hc
  have hrename : ((retireHead c (s.ctx c).oldest s1).ctx c).renameOf a = (s.ctx c).renameOf a :=
    (congrArg (fun x : Context => x.renameOf a) (committed_ctx hreg) :)
  have hchain := hbufs.chains ha a ha64
  rw [cmap_eq, cmap_eq, hrename]
  rw [committed_liveRob hreg hrob hnum, writersOf_cons] at *
  split
  · obtain ⟨harch, hsome⟩ := ‹_ ∧ _›
    obtain ⟨q, hq⟩ := Option.isSome_iff_exists.mp hsome
    rw [writersOf_singleton_of _ harch hq] at hchain
    exact hchain.of_cons.2
  · rw [writersOf_singleton_of_not _ ‹_›, List.nil_append]

include hpartner

theorem committed_bufs (hcompleted : (s.ctx c).oldest.completed = true) : BufsOk s.cfg.prfBankSize true (s.ctx c).renameOf
    (s.ctx c).icount (liveEntries ((retireHead c (s.ctx c).oldest s1).ctx c) .rob)
    (liveEntries ((retireHead c (s.ctx c).oldest s1).ctx c) .lsq) := by
  obtain ⟨⟨hrob, hlsq, _⟩, hbufs, _⟩ := h.ctx c hc
  rw [ha, committed_liveRob hreg hrob hnum] at hbufs
  have hiq : (s.ctx c).oldest.inIq = false := by
    obtain ⟨⟨_, _, hissued⟩, _, _, _, _, hinIq, _⟩ := hbufs.rob _ List.mem_cons_self
    rw [hinIq, hissued hcompleted]
    rfl
  cases he : (s.ctx c).oldest.eaComp with
  | true =>
    have hlive := committed_liveLsq_of_mem hreg hlsq (partnerCheck_ready_num hpartner he).1 he
    obtain ⟨l, M', hM, _, hseqs⟩ := hbufs.seqs_of_cons he
    obtain ⟨_, rfl⟩ := List.cons.inj (hlive.symm.trans hM)
    refine hbufs.tail ?_ hseqs hiq
    rw [hlive]
    exact List.sublist_cons_self _ _
  | false =>
    have hlive := committed_liveLsq_of_not_mem hreg he
    rw [hlive]
    exact hbufs.tail (List.Sublist.refl _) (hbufs.seqs_of_cons_not he) hiq

theorem committed_queues : QueuesOk (retireHead c (s.ctx c).oldest s1) := by
  obtain ⟨⟨hrob, hlsq, hifq⟩, _, _⟩ := h.ctx c hc
  have hrings := committed_rings hnum hpartner hreg ⟨hrob, hlsq, hifq⟩
  have honly := (commitReg_spec hreg).1
  have hcfg : (retireHead c (s.ctx c).oldest s1).cfg = s.cfg := (retireHead_around ..).1.trans honly.around.1
  have hwq := fun k q => (retireHead_wq c (s.ctx c).oldest s1 k q).trans
    (by rw [honly.ctx c, honly.wq k q, dropEntry_head])
  refine queuesOk_of_change hcfg h.queues (fun j hj => (retireHead_ctx_ne _ _ _ hj).trans (honly.ctx j)) (fun k q => ?_)
    fun q m hm hmc hl => ?_
  · rw [hwq]
    split
    · exact List.filter_sublist
    · exact List.Sublist.refl _
  · rw [hwq, if_pos rfl] at hm
    obtain ⟨_, hkeep⟩ := List.mem_filter.mp hm
    rw [live_iff_mem (by cases m.buf <;> assumption)] at hl
    obtain ⟨_, hmem, hgen⟩ := hl
    rw [live_iff_mem (by cases m.buf <;> [exact hrings.1; exact hrings.2.1]), committed_gen hreg, committed_entry hreg,
      (committed_sameSeat hreg).attached, (committed_sameSeat hreg).core]
    refine ⟨⟨ha, ?_, hgen⟩, rfl, rfl⟩
    rw [committed_ctx hreg]
    cases hb : m.buf with
    | rob =>
      rw [hb, Context.ring_rob, liveSlots_eq_head_cons hrob hnum] at hmem
      refine (List.mem_cons.mp hmem).resolve_left fun hi => ?_
      simp [hmc, hb, hi] at hkeep
    | lsq =>
      rw [hb, Context.ring_lsq] at hmem
      rw [Context.ring_lsq]
      split
      · rw [liveSlots_eq_head_cons hlsq (partnerCheck_ready_num hpartner ‹_›).1] at hmem
        refine (List.mem_cons.mp hmem).resolve_left fun hi => ?_
        simp [hmc, hb, hi, ‹(s.ctx c).oldest.eaComp = true›] at hkeep
      · exact hmem

theorem EngineSound.commit (hcompleted : (s.ctx c).oldest.completed = true) :
    EngineSound (retireHead c (s.ctx c).oldest s1) := by
  obtain ⟨hrob, _, _⟩ := (h.ctx c hc).rings
  have honly := (commitReg_spec hreg).1
  have hcfg : (retireHead c (s.ctx c).oldest s1).cfg = s.cfg := (retireHead_around ..).1.trans honly.around.1
  have hseat := committed_sameSeat hreg
  have hicount : ((retireHead c (s.ctx c).oldest s1).ctx c).icount = (s.ctx c).icount := by rw [committed_ctx hreg]
  have hrename : ((retireHead c (s.ctx c).oldest s1).ctx c).renameOf = (s.ctx c).renameOf := by rw [committed_ctx hreg]; rfl
  have hcore : s1.ctx c = s.ctx c := honly.ctx c
  refine h.of_seated hc ha hcfg (fun j hj => (retireHead_ctx_ne _ _ _ hj).trans (honly.ctx j))
    (fun k hk => (retireHead_core_ne _ _ _ (by rwa [hcore])).trans (honly.core_ne k hk)) hseat
    ⟨committed_rings hnum hpartner hreg (h.ctx c hc).rings, ?_, fun hdet => ?_⟩ ?_ ?_
    (committed_queues h hc ha hnum hpartner hreg) (fun b p hp => ?_) fun b p hp => ?_
  · rw [hcfg, hseat.attached, ha, hicount, hrename]
    exact committed_bufs h hc ha hnum hpartner hreg hcompleted
  · rw [hseat.attached, ha] at hdet
    cases hdet
  · rw [retireHead_iqCount, honly.iqCount, hicount]
  · rw [retireHead_iqCount, honly.iqCount]
    exact h.iqCap _ (h.core_lt hc ha)
  · rw [retireHead_reg, committed_liveRob hreg hrob hnum, ← List.singleton_append, owns_append, owns_singleton]
    have := (commitReg_counts hreg b p).1
    omega
  · have hregs := (commitReg_counts hreg b p).2
    have hcmap := fun {a} => committed_cmap h hc ha hnum hreg (a := a)
    have hcommits := commits_swap (s.ctx c).oldest.archreg.isLt
      (fun a ha64 hne => (hcmap ha64).trans (if_neg fun h => hne h.1.symm)) b p
    rw [hcmap (s.ctx c).oldest.archreg.isLt] at hcommits
    rw [retireHead_reg]
    cases hq : (s.ctx c).oldest.physreg with
    | none =>
      simp only [hq, Option.isSome_none, Bool.false_eq_true, false_and, and_false, reduceCtorEq, if_false, indicator]
        at hcommits hregs
      omega
    | some q =>
      have hold := cmap_oldest h hc hnum hreg hq
      simp only [hq, Option.isSome_some, and_self, if_true, true_and, hold] at hcommits hregs
      omega

end Commit

end Sys2Proof.Machine

/-! PROOFS. Flush, eviction and admission keep the invariants (43_rollback.md R263, 44_context.md R290, R292). -/

namespace Sys2Proof.Machine

open Sys2Proof.Safety

/-! ### A context with empty buffers -/

theorem liveEntries_of_num_eq_zero {x : Context} {b : Buf} (h : (x.ring b).num = 0) : liveEntries x b = [] := by
  rw [liveEntries, liveSlots_of_num_eq_zero h, List.map_nil]

theorem bufsOk_nil {bound : Nat} {attached : Bool} {rename : Nat → Nat}
    (h : attached = true → ∀ a < 64, rename a < bound) : BufsOk bound attached rename 0 [] [] :=
  ⟨nofun, nofun, rfl, rfl, fun ha a ha64 => chainOk_nil (h ha a ha64)⟩

theorem cmap_of_empty {x : Context} (h : x.robRing.num = 0) (a : Nat) : cmap x a = some (x.renameOf a) := by
  rw [cmap_eq, liveEntries_of_num_eq_zero (b := .rob) h]
  rfl

theorem owns_of_empty {x : Context} (h : x.robRing.num = 0) (b : Bank) (p : Nat) : owns (liveEntries x .rob) b p = 0 := by
  rw [liveEntries_of_num_eq_zero (b := .rob) h]
  rfl

/-- The committed mappings of a context with an empty ROB are its rename targets. -/
theorem commits_of_empty {x : Context} (h : x.robRing.num = 0) (b : Bank) (p : Nat) : commits x b p
    = ((List.range 64).filter (fun a => decide (bankOf a = b) && decide (x.renameOf a = p))).length := by
  simp only [commits, cmap_of_empty h, Option.some.injEq]

theorem targets_eq_false_iff {x : Context} (h : x.robRing.num = 0) (b : Bank) (p : Nat) :
    targets x (List.range 64) b p = false ↔ commits x b p = 0 := by
  rw [commits_of_empty h, List.length_eq_zero_iff, List.filter_eq_nil_iff, targets, List.any_eq_false]

theorem not_live_of_num_eq_zero {s : State} {c : Nat} {b : Buf} {i g : Nat} (h : ((s.ctx c).ring b).num = 0) :
    s.live c b i g = false := by
  simp [State.live, Ring.isLive, h]

theorem not_live_of_detached {s : State} {c : Nat} {b : Buf} {i g : Nat} (h : (s.ctx c).attached = false) :
    s.live c b i g = false := by
  simp [State.live, h]

/-- A context of the core holds no more committed mappings of a register than the register counts. -/
theorem EngineSound.commits_le {c : Nat} {s : State} (h : EngineSound s) (hc : c < s.cfg.numContexts)
    (ha : (s.ctx c).attached = true) {b : Bank} {p : Nat} (hp : p < s.cfg.prfBankSize) :
    commits (s.ctx c) b p ≤ (s.reg (s.ctx c).core b p).state.architects := by
  rw [← h.committed _ (h.core_lt hc ha) b p hp, committers_eq]
  exact List.le_sum_of_mem (List.mem_map.mpr ⟨c, List.mem_range.mpr hc, onCore_of_attached ha _⟩)

/-- A context of the core owns a register at most as often as the register counts. -/
theorem EngineSound.owns_le {c : Nat} {s : State} (h : EngineSound s) (hc : c < s.cfg.numContexts)
    (ha : (s.ctx c).attached = true) {b : Bank} {p : Nat} (hp : p < s.cfg.prfBankSize) :
    owns (liveEntries (s.ctx c) .rob) b p ≤ (s.reg (s.ctx c).core b p).state.allocs := by
  rw [← h.owned _ (h.core_lt hc ha) b p hp, owners_eq]
  exact List.le_sum_of_mem (List.mem_map.mpr ⟨c, List.mem_range.mpr hc, onCore_of_attached ha _⟩)

theorem RegState.architects_le (r : RegState) : r.architects ≤ 1 := by cases r <;> decide

theorem RegState.architects_pos {r : RegState} (h : 0 < r.architects) : r = .architected := by
  cases r <;> [exact absurd h (by decide); exact absurd h (by decide); rfl]

theorem RegState.allocs_pos {r : RegState} (h : 0 < r.allocs) : r = .alloc := by
  cases r <;> [exact absurd h (by decide); rfl; exact absurd h (by decide)]

/-! ### The end of a flush -/

section Flush

variable {c n : Nat} {pc : Word} {s : State} (h : EngineSound s) (hc : c < s.cfg.numContexts)
  (ha : (s.ctx c).attached = true) (hrob : (s.ctx c).robRing.num = 0) (hlsq : (s.ctx c).lsqRing.num = 0)

include h hc hrob in
theorem icount_of_empty : (s.ctx c).icount = 0 := by
  rw [(h.ctx c hc).bufs.icount, liveEntries_of_num_eq_zero (b := .rob) hrob]
  rfl

include h hc ha in
theorem EngineSound.renameOf_lt {a : Nat} (ha64 : a < 64) : (s.ctx c).renameOf a < s.cfg.prfBankSize :=
  ((h.ctx c hc).bufs.chains ha a ha64).rename_lt

include h hc ha hrob hlsq

theorem EngineSound.flushFinish : EngineSound (flushFinish c n pc s) := by
  have hctx := flushFinish_ctx_same c n pc s
  have hicount := icount_of_empty h hc hrob
  have hringRob : ((Machine.flushFinish c n pc s).ctx c).robRing.num = 0 := by rw [hctx]; rfl
  have hringLsq : ((Machine.flushFinish c n pc s).ctx c).lsqRing.num = 0 := by rw [hctx]; rfl
  refine h.of_seated hc ha rfl (fun j hj => flushFinish_ctx_ne n pc s hj) (fun _ _ => rfl) ?_ ⟨?_, ?_, ?_⟩ ?_
    (h.iqCap _ (h.core_lt hc ha)) ?_ (fun b p _ => ?_) fun b p _ => ?_
  · constructor
    case slotOf => exact fun _ _ => rfl
    all_goals
      rw [hctx]
      rfl
  · rw [hctx]
    exact ⟨ringOk_empty _, ringOk_empty _, ringOk_empty _⟩
  · rw [liveEntries_of_num_eq_zero (b := .rob) hringRob, liveEntries_of_num_eq_zero (b := .lsq) hringLsq, hctx]
    exact bufsOk_nil fun _ a ha64 => h.renameOf_lt hc ha ha64
  · rw [hctx]
    exact fun _ => ⟨rfl, rfl, rfl, rfl⟩
  · rw [hctx, hicount]
    rfl
  · refine queuesOk_of_change (s := s) rfl h.queues (fun j hj => flushFinish_ctx_ne n pc s hj) (fun _ _ => List.Sublist.refl _)
      fun _ m _ _ hl => ?_
    rw [not_live_of_num_eq_zero (by cases m.buf <;> assumption)] at hl
    cases hl
  · rw [owns_of_empty hrob, owns_of_empty hringRob]
    rfl
  · rw [commits_of_empty hrob, commits_of_empty hringRob, hctx]
    rfl

end Flush

theorem squashMany_robNum {c : Nat} : ∀ {n : Nat} {s t : State}, squashMany c n s = .ok t →
    (t.ctx c).robRing.num = (s.ctx c).robRing.num - n := by
  intro n
  induction n with
  | zero =>
    intro s t h
    cases h
    rfl
  | succ n ih =>
    intro s t h
    obtain ⟨s1, h1, h2⟩ := (squashMany_succ_ok c n s t).mp h
    rw [ih h2, (squashEntry_spec h1).robRing, Ring.popTail_num]
    omega

/-- A flush keeps the invariants. -/
theorem EngineSound.flush {c : Nat} {s t : State} (h : EngineSound s) (hc : c < s.cfg.numContexts)
    (ha : (s.ctx c).attached = true) (hflush : flushBody c s = .ok t) : EngineSound t := by
  obtain ⟨s1, hsquash, hlsq, rfl⟩ := flushBody_ok c s t hflush
  have hframe := squashMany_frame_ok hsquash
  have hs1 := h.squashMany hc ha (Nat.le_refl _) hsquash
  refine hs1.flushFinish (hframe.cfg ▸ hc) ((congrArg Context.attached hframe.ctx :).trans ha) ?_ hlsq
  rw [squashMany_robNum hsquash, Nat.sub_self]

/-! ### Eviction -/

theorem slotOk_iff {s : State} {k n : Nat} : SlotOk s k n ↔ ∀ c, (s.core k).slotOf n = some c →
    c < s.cfg.numContexts ∧ (s.ctx c).attached = true ∧ (s.ctx c).core = k ∧ (s.ctx c).slot = n := by
  rw [SlotOk, Option.all_eq_true]
  simp

/-- A context that holds slot `n` of core `k` stands there. -/
theorem EngineSound.slotOf_eq {s : State} (h : EngineSound s) {c k n : Nat} (hk : k < s.cfg.numCores)
    (hn : n < s.cfg.maxContexts) (hslot : (s.core k).slotOf n = some c) :
    c < s.cfg.numContexts ∧ (s.ctx c).attached = true ∧ (s.ctx c).core = k ∧ (s.ctx c).slot = n :=
  slotOk_iff.mp (h.slots k hk n hn) c hslot

section Evict

variable {c : Nat} {s t : State} (h : EngineSound s) (hc : c < s.cfg.numContexts)
  (ha : (s.ctx c).attached = true) (hevict : evict c s = .ok t)

include hevict in
theorem evict_quiescent : (s.ctx c).robRing.num = 0 ∧ (s.ctx c).icount = 0 ∧ (s.ctx c).lsqRing.num = 0
    ∧ ∀ a < 64, Returnable s c a := (evictDefect_none c s).mp (evict_ok c s t hevict).1

include h hevict in
theorem evicted_slots {k : Nat} (hk : k < s.cfg.numCores) {n : Nat} (hn : n < s.cfg.maxContexts) : SlotOk t k n := by
  obtain ⟨_, hslot, _, _, _, _, hctx_ne, _, haround⟩ := evictedFrom_of_ok hevict
  obtain ⟨hcfg, _⟩ := haround
  refine slotOk_iff.mpr fun j hj => ?_
  rw [hcfg]
  rw [hslot] at hj
  split at hj
  next => cases hj
  next hother =>
    obtain ⟨hlt, hattached, hcore, hstands⟩ := h.slotOf_eq hk hn hj
    have hne : j ≠ c := by
      rintro rfl
      exact hother ⟨hcore.symm, hstands.symm⟩
    rw [hctx_ne j hne]
    exact ⟨hlt, hattached, hcore, hstands⟩

include h hc ha hevict

/-- The rename targets that an eviction returns were ARCHITECTED, and no other register changes. -/
theorem evicted_counts {b : Bank} {p : Nat} (hp : p < s.cfg.prfBankSize) :
    (t.reg (s.ctx c).core b p).state.allocs = (s.reg (s.ctx c).core b p).state.allocs
      ∧ (t.reg (s.ctx c).core b p).state.architects + commits (s.ctx c) b p
        = (s.reg (s.ctx c).core b p).state.architects := by
  obtain ⟨hrob, _⟩ := evict_quiescent hevict
  rw [(evictedFrom_of_ok hevict).reg]
  cases htargets : targets (s.ctx c) (List.range 64) b p with
  | false =>
    rw [if_neg (by simp), (targets_eq_false_iff hrob b p).mp htargets]
    exact ⟨rfl, rfl⟩
  | true =>
    have hpos : 0 < commits (s.ctx c) b p := by
      rw [Nat.pos_iff_ne_zero, ne_eq, ← targets_eq_false_iff hrob, htargets]
      decide
    have hle := h.commits_le hc ha (b := b) hp
    have harch := RegState.architects_pos (Nat.lt_of_lt_of_le hpos hle)
    rw [harch] at hle ⊢
    rw [if_pos ⟨rfl, rfl⟩]
    exact ⟨rfl, (Nat.zero_add _).trans (Nat.le_antisymm hle hpos)⟩

/-- An eviction keeps the invariants. -/
theorem EngineSound.evict : EngineSound t := by
  obtain ⟨hrob, hicount, hlsq, _⟩ := evict_quiescent hevict
  obtain ⟨hreg, hslot, hwq, hiq, hcore_ne, hctx, hctx_ne, _, hcfg, _⟩ := evictedFrom_of_ok hevict
  have hdet : (t.ctx c).attached = false := by rw [hctx]; rfl
  have hringRob : (t.ctx c).robRing.num = 0 := by rw [hctx]; rfl
  have hringLsq : (t.ctx c).lsqRing.num = 0 := by rw [hctx]; rfl
  have hregs : ∀ k, k ≠ (s.ctx c).core → ∀ b p, t.reg k b p = s.reg k b p := fun k hk b p => by
    rw [hreg, if_neg fun h => hk h.1]
  refine h.of_change hc ⟨hcfg, hctx_ne, ⟨evict_rings hevict, ?_, fun _ => ?_⟩, ?_, fun k hk n hn => ?_, fun j hj hjc haj => ?_,
    fun k hk => ?_, fun k hk => ?_, ?_, fun k hk b p hp => ?_, fun k hk b p hp => ?_⟩
  · have hicount' : (t.ctx c).icount = 0 := by rw [hctx]; exact hicount
    rw [liveEntries_of_num_eq_zero (b := .rob) hringRob, liveEntries_of_num_eq_zero (b := .lsq) hringLsq, hdet, hicount']
    exact bufsOk_nil nofun
  · rw [hctx]
    exact ⟨rfl, rfl, rfl, hicount⟩
  · rw [hdet]
    nofun
  · exact evicted_slots h hevict (hcfg ▸ hk) (hcfg ▸ hn)
  · rw [hctx_ne j hjc] at haj ⊢
    obtain ⟨_, _, hslotj, _⟩ := h.seat j (hcfg ▸ hj) haj
    obtain ⟨_, _, hslotc, _⟩ := h.seat c hc ha
    rw [hslot, if_neg]
    · exact hslotj
    · rintro ⟨hk, hn⟩
      rw [hk, hn, hslotc] at hslotj
      exact hjc (Option.some.inj hslotj).symm
  · rw [hiq, onCore_of_detached hdet, hicount, onCore_zero]
  · rw [hiq, hcfg]
    exact h.iqCap k (hcfg ▸ hk)
  · refine queuesOk_of_change hcfg h.queues hctx_ne (fun k q => hwq k q ▸ List.Sublist.refl _) fun _ m _ _ hl => ?_
    rw [not_live_of_num_eq_zero (by cases m.buf <;> assumption)] at hl
    cases hl
  · rw [owns_of_empty hrob, onCore_of_detached hdet, onCore_zero]
    by_cases hkc : k = (s.ctx c).core
    · subst hkc
      rw [(evicted_counts h hc ha hevict (hcfg ▸ hp)).1]
    · rw [hregs k hkc]
  · rw [onCore_of_detached hdet]
    by_cases hkc : k = (s.ctx c).core
    · subst hkc
      rw [onCore_of_attached ha]
      exact (evicted_counts h hc ha hevict (hcfg ▸ hp)).2
    · rw [hregs k hkc, onCore_of_ne hkc]

end Evict

/-! ### Admission -/

/-- Exactly one number below `n` satisfies the condition. -/
theorem length_filter_unique {n a₀ : Nat} (ha₀ : a₀ < n) {f : Nat → Bool} (hf : ∀ a < n, f a = true ↔ a = a₀) :
    ((List.range n).filter f).length = 1 := by
  rw [List.filter_congr (q := fun a => a == a₀) fun a ha => ?_]
  · rw [← List.countP_eq_length_filter]
    exact List.count_eq_one_of_mem List.nodup_range (List.mem_range.mpr ha₀)
  · rw [Bool.eq_iff_iff, hf a (List.mem_range.mp ha), beq_iff_eq]

/-- Positions in a list without repetition. -/
theorem getElem?_inj_of_nodup {l : List Nat} (hl : l.Nodup) {i j p : Nat} (hi : l[i]? = some p) (hj : l[j]? = some p) : i = j :=
  (List.getElem?_inj (List.getElem?_eq_some_iff.mp hi).1 hl).mp (hi.trans hj.symm)

section Admit

variable {c k n : Nat} {s t : State}

/-- The position of an architected register in its bank. -/
def bankPos (a : Nat) : Nat := if a < 32 then a else a - 32

/-- The rename entries an admission gives are the registers leased, in order. -/
theorem AdmittedTo.renameOf (h : AdmittedTo c k n s t) {a : Nat} (ha : a < 64) :
    (freeList s k (bankOf a))[bankPos a]? = some ((t.ctx c).renameOf a) := by
  obtain ⟨_, _, _, _, _, _, _, _, hint, hfp, _⟩ := h.admitted
  by_cases ha32 : a < 32
  · rw [bankOf_of_lt ha32, bankPos, if_pos ha32]
    exact hint a ha32
  · rw [bankOf_of_le (Nat.not_lt.mp ha32), bankPos, if_neg ha32, hfp (a - 32) (by omega), show 32 + (a - 32) = a by omega]

theorem bankPos_lt {a : Nat} (ha : a < 64) : bankPos a < 32 := by
  unfold bankPos
  split <;> omega

theorem bankPos_inj {a a' : Nat} (hb : bankOf a = bankOf a') (h : bankPos a = bankPos a') : a = a' := by
  unfold bankPos at h
  by_cases ha : a < 32 <;> by_cases ha' : a' < 32
  · simpa [ha, ha'] using h
  · rw [bankOf_of_lt ha, bankOf_of_le (Nat.not_lt.mp ha')] at hb
    cases hb
  · rw [bankOf_of_lt ha', bankOf_of_le (Nat.not_lt.mp ha)] at hb
    cases hb
  · simp only [ha, ha', if_false] at h
    omega

theorem exists_bankPos (b : Bank) {i : Nat} (hi : i < 32) : ∃ a < 64, bankOf a = b ∧ bankPos a = i := by
  cases b
  · exact ⟨i, by omega, bankOf_of_lt hi, if_pos hi⟩
  · exact ⟨32 + i, by omega, bankOf_of_le (by omega), (if_neg (by omega)).trans (by omega)⟩

/-- The leased registers are the committed mappings, each once. -/
theorem AdmittedTo.commits (h : AdmittedTo c k n s t) (b : Bank) (p : Nat) :
    commits (t.ctx c) b p = indicator (p ∈ (freeList s k b).take 32) := by
  obtain ⟨_, _, _, hrob, _⟩ := h.admitted
  rw [commits_of_empty (by rw [hrob]), indicator]
  split
  · obtain ⟨i, hi, hp⟩ := List.mem_take_iff_getElem.mp ‹_›
    obtain ⟨a₀, ha₀, rfl, rfl⟩ := exists_bankPos b (i := i) (by omega)
    have hp : (freeList s k (bankOf a₀))[bankPos a₀]? = some p := List.getElem?_eq_some_iff.mpr ⟨_, hp⟩
    refine length_filter_unique ha₀ fun a ha => ?_
    simp only [Bool.and_eq_true, decide_eq_true_eq]
    constructor
    · rintro ⟨hb, hren⟩
      have ha := h.renameOf ha
      rw [hb, hren] at ha
      exact bankPos_inj hb (getElem?_inj_of_nodup (freeList_nodup ..) ha hp)
    · rintro rfl
      exact ⟨rfl, Option.some.inj ((h.renameOf ha₀).symm.trans hp)⟩
  · rw [List.length_eq_zero_iff, List.filter_eq_nil_iff]
    intro a ha hmatch
    simp only [Bool.and_eq_true, decide_eq_true_eq] at hmatch
    obtain ⟨rfl, rfl⟩ := hmatch
    have ha := List.mem_range.mp ha
    obtain ⟨hlt, hget⟩ := List.getElem?_eq_some_iff.mp (h.renameOf ha)
    exact ‹_ ∉ _› (List.mem_take_iff_getElem.mpr ⟨bankPos a, by have := bankPos_lt ha; omega, hget⟩)

variable (hs : EngineSound s) (hc : c < s.cfg.numContexts) (ha : (s.ctx c).attached = false) (hk : k < s.cfg.numCores)
  (hn : n < s.cfg.maxContexts) (hempty : (s.core k).slotOf n = none) (h : AdmittedTo c k n s t)

include hs hc ha hk hn hempty h

/-- An admission to an empty slot keeps the invariants. -/
theorem EngineSound.admitted : EngineSound t := by
  obtain ⟨hattached, hcore, hslot, hrob, hlsq, hifq, hicount, hslotOf, _, _, hreg⟩ := h.admitted
  have hcfg := h.around.1
  have hringRob : (t.ctx c).robRing.num = 0 := by rw [hrob]
  have hringLsq : (t.ctx c).lsqRing.num = 0 := by rw [hlsq]
  have hregs : ∀ j, j ≠ k → ∀ b p, t.reg j b p = s.reg j b p := fun j hj b p => by
    rw [State.reg, h.core_ne j hj]
    rfl
  refine hs.of_change hc ⟨hcfg, h.ctx_ne, ⟨?_, ?_, fun hdet => ?_⟩, fun _ => ?_, fun j hj i hi => ?_, fun j hj hjc haj => ?_,
    fun j hj => ?_, fun j hj => ?_, ?_, fun j hj b p hp => ?_, fun j hj b p hp => ?_⟩
  · rw [ContextRingsOk, hrob, hlsq, hifq]
    exact ⟨ringOk_empty _, ringOk_empty _, ringOk_empty _⟩
  · rw [liveEntries_of_num_eq_zero (b := .rob) hringRob, liveEntries_of_num_eq_zero (b := .lsq) hringLsq, hicount, hcfg]
    exact bufsOk_nil fun _ a ha64 => (mem_freeList.mp (List.mem_of_getElem? (h.renameOf ha64))).1
  · rw [hattached] at hdet
    cases hdet
  · rw [StandsIn, hcore, hslot, hrob, hlsq, hifq, hcfg]
    exact ⟨hk, hn, hslotOf, rfl, rfl, rfl⟩
  · refine slotOk_iff.mpr fun j' hj' => ?_
    rw [hcfg] at hj hi ⊢
    rw [h.slotOf] at hj'
    split at hj'
    · obtain rfl := Option.some.inj hj'
      obtain ⟨rfl, rfl⟩ := ‹_ ∧ _›
      exact ⟨hc, hattached, hcore, hslot⟩
    · obtain ⟨hlt, hat, hrest⟩ := hs.slotOf_eq hj hi hj'
      have hne : j' ≠ c := by
        rintro rfl
        rw [ha] at hat
        cases hat
      rw [h.ctx_ne j' hne]
      exact ⟨hlt, hat, hrest⟩
  · rw [h.ctx_ne j hjc] at haj ⊢
    obtain ⟨_, _, hslotj, _⟩ := hs.seat j (hcfg ▸ hj) haj
    rw [h.slotOf, if_neg]
    · exact hslotj
    · rintro ⟨rfl, rfl⟩
      rw [hempty] at hslotj
      cases hslotj
  · rw [h.iqCount, onCore_of_detached ha, hicount, onCore_zero]
  · rw [h.iqCount, hcfg]
    exact hs.iqCap j (hcfg ▸ hj)
  · refine queuesOk_of_change hcfg hs.queues h.ctx_ne (fun j q => h.wq j q ▸ List.Sublist.refl _) fun _ m _ _ hl => ?_
    rw [not_live_of_detached ha] at hl
    cases hl
  · rw [owns_of_empty hringRob, onCore_of_detached ha, onCore_zero]
    by_cases hjk : j = k
    · subst hjk
      rw [hreg]
      split
      · rw [(mem_freeList.mp (List.mem_of_mem_take (List.contains_iff_mem.mp ‹_›))).2]
        rfl
      · rfl
    · rw [hregs j hjk]
  · rw [onCore_of_detached ha, h.commits]
    by_cases hjk : j = k
    · subst hjk
      rw [← hcore, onCore_of_attached hattached, hcore, hreg, indicator]
      simp only [List.contains_iff_mem]
      split
      · rw [(mem_freeList.mp (List.mem_of_mem_take ‹_›)).2]
        rfl
      · rfl
    · rw [hregs j hjk, onCore_of_ne (by rwa [hcore])]

end Admit

/-- An admission keeps the invariants. -/
theorem EngineSound.admission {c k : Nat} {s t : State} (h : EngineSound s) (hc : c < s.cfg.numContexts)
    (ha : (s.ctx c).attached = false) (hk : k < s.cfg.numCores) (hadmit : admitTo c k s = .ok t) : EngineSound t := by
  obtain ⟨n, hn, _, _, hspec⟩ := admitTo_ok hadmit
  obtain ⟨hlt, hempty, _⟩ := emptySlot_eq_some.mp hn
  exact h.admitted hc ha hk hlt hempty hspec

end Sys2Proof.Machine

/-! PROOFS. Every command, and every step, keeps the invariants (10_state.md section 5). -/

namespace Sys2Proof.Machine

open Sys2Proof.Safety

/-- The invariants depend on the parameters and the engine alone. -/
theorem EngineSound.congr {s t : State} (h : EngineSound s) (hcfg : t.cfg = s.cfg) (heng : t.eng = s.eng) : EngineSound t := by
  have hctx : ∀ c, t.ctx c = s.ctx c := fun c => congrArg (fun g : Engine => Table.get Context.reset g.contexts c) heng
  have hcore : ∀ k, t.core k = s.core k := fun k => congrArg (fun g : Engine => Table.get Core.reset g.cores k) heng
  have hview : SameView s t := by
    refine ⟨hcfg, fun c => by rw [hctx], fun k n => by rw [hcore], fun k => by rw [hcore], fun k b p => ?_⟩
    rw [State.reg, hcore]
    rfl
  exact hview.engineSound_of_same h (fun c => by rw [hctx]) fun k q => by rw [hcore]

/-- The context as the end of a rollback leaves it (43_rollback.md R262). -/
def rollbackUpdate (c i : Nat) (m : Bool) (s : State) (y : Context) : Context :=
  { y with
    ifqRing := y.ifqRing.drain
    fetchPc := ((s.ctx c).entry .rob i).nextPc
    fetchStallUntil := if m || s.cfg.penaltyOnAllRollbacks then stallEnd s.now s.cfg.mispredPenalty
      else y.fetchStallUntil }

theorem afterRollback_eng (c i n : Nat) (m : Bool) (s : State) :
    (afterRollback c i m n s).eng = (s.updCtx c (rollbackUpdate c i m s)).eng := by
  cases m <;> rfl

theorem afterRollback_cfg (c i n : Nat) (m : Bool) (s : State) : (afterRollback c i m n s).cfg = s.cfg := by
  cases m <;> rfl

theorem EngineSound.afterRollback {c i n : Nat} {m : Bool} {s : State} (h : EngineSound s) (hc : c < s.cfg.numContexts)
    (ha : (s.ctx c).attached = true) : EngineSound (afterRollback c i m n s) := by
  refine (h.updIfq (f := rollbackUpdate c i m s) hc rfl (ringOk_drain (h.ctx c hc).rings.2.2) fun hdet => ?_).congr
    (afterRollback_cfg c i n m s) (afterRollback_eng c i n m s)
  rw [ha] at hdet
  cases hdet

theorem flushBody_attached {c : Nat} {s t : State} (h : flushBody c s = .ok t) :
    t.cfg = s.cfg ∧ (t.ctx c).attached = (s.ctx c).attached := by
  obtain ⟨s1, hsquash, _, rfl⟩ := flushBody_ok c s t h
  have hframe := squashMany_frame_ok hsquash
  refine ⟨hframe.cfg, ?_⟩
  rw [flushFinish_ctx_same]
  exact (congrArg Context.attached hframe.ctx :)

/-- A rollback keeps the invariants. -/
theorem EngineSound.rollback {c i n : Nat} {m : Bool} {s t : State} (h : EngineSound s) (hc : c < s.cfg.numContexts)
    (ha : (s.ctx c).attached = true) (hsquash : Machine.squashMany c (youngerCount (s.ctx c) i) s = .ok t) :
    EngineSound (Machine.afterRollback c i m n t) := by
  have hframe := squashMany_frame_ok hsquash
  exact (h.squashMany hc ha (youngerCount_le _ _) hsquash).afterRollback (hframe.cfg ▸ hc)
    ((congrArg Context.attached hframe.ctx :).trans ha)

/-- New timestamps of a register keep the invariants. -/
theorem EngineSound.setReady {k p : Nat} {b : Bank} {r : PhysReg} {s : State} (h : EngineSound s)
    (hr : r.state = (s.reg k b p).state) : EngineSound (s.setReg k b p r) := by
  refine SameView.engineSound_of_same (s := s) ⟨rfl, fun _ => rfl, fun j n => State.setReg_core_slotOf s k b p r j n,
    fun j => State.setReg_core_iqCount s k b p r j, fun j b' p' => ?_⟩ h (fun _ => rfl) fun j q => State.setReg_core_wq s k b p r j q
  rw [State.reg_setReg]
  split
  · obtain ⟨rfl, rfl, rfl⟩ := ‹_ ∧ _›
    exact hr
  · rfl

theorem without_sublist (m : Membership) (l : List Membership) : List.Sublist (without m l) l := List.filter_sublist

/-- The flush and the eviction of a transfer keep the invariants, and leave the context detached. -/
theorem EngineSound.flush_evict {c : Nat} {s s1 s2 : State} (h : EngineSound s) (hc : c < s.cfg.numContexts)
    (ha : (s.ctx c).attached = true) (hflush : flushBody c s = .ok s1) (hevict : Machine.evict c s1 = .ok s2) :
    EngineSound s2 ∧ c < s2.cfg.numContexts ∧ (s2.ctx c).attached = false ∧ s2.cfg = s.cfg := by
  obtain ⟨hcfg1, hattached1⟩ := flushBody_attached hflush
  have hs1 := h.flush hc ha hflush
  have hfrom := evictedFrom_of_ok hevict
  have hcfg2 := hfrom.around.1
  refine ⟨hs1.evict (hcfg1 ▸ hc) (hattached1.trans ha) hevict, by rwa [hcfg2, hcfg1], ?_, hcfg2.trans hcfg1⟩
  rw [hfrom.ctx]
  rfl

/-- Every command that is performed keeps the invariants. -/
theorem Performed.sound {i : Instr} {s s' : State} {r : Response} (h : Performed s i s' r) (hs : EngineSound s) :
    EngineSound s' := by
  cases h with
  | declined _ => exact hs
  | read _ => exact hs
  | deadRead _ _ _ _ => exact hs.congr rfl rfl
  | dispatched h => exact hs.dispatch h
  | markedQueued hc hlive he => exact hs.markQueued hc hlive he
  | issued hc hlive he => exact hs.issue hc hlive he
  | completed hc hlive he => exact hs.complete hc hlive he
  | committed hc ha hnum hcompleted hpartner hreg => exact hs.commit hc ha hnum hpartner hreg hcompleted
  | rolledBack hc hlive hsquash => exact hs.rollback hc (hs.mem_liveSlots_of_live hc hlive).1 hsquash
  | flushed hc ha hflush => exact hs.flush hc ha hflush
  | added hc hk ha hadmit => exact hs.admission hc ha hk hadmit
  | addRejected _ _ _ => exact hs
  | ejected hc ha hevict => exact hs.evict hc ha hevict
  | transferred hc hk ha hflush hevict hadmit =>
    obtain ⟨hs2, hc2, hdet, hcfg2⟩ := hs.flush_evict hc ha hflush hevict
    exact hs2.admission hc2 hdet (hcfg2 ▸ hk) hadmit
  | transferRejected hc hk ha hflush hevict hadmit => exact (hs.flush_evict hc ha hflush hevict).1
  | setReady hk halloc => exact hs.setReady rfl
  | inserted hk hc hlive hno =>
    exact hs.wqInsert hc hlive.1 hlive.2 (by rintro rfl; rfl) (eq_false_of_ne_true hno)
  | popped hk hm => exact (hs.congr (t := s.afterDraw) rfl rfl).setWq_sublist (without_sublist _ _)
  | removed m hk => exact hs.setWq_sublist (without_sublist _ _)
  | pushed hc ha hroom =>
    refine hs.updIfq hc rfl (ringOk_pushTail (hs.ctx _ hc).rings.2.2 hroom) fun hdet => ?_
    rw [ha] at hdet
    cases hdet
  | poppedIfq data hc ha hnum =>
    refine hs.updIfq hc rfl (ringOk_popHead (hs.ctx _ hc).rings.2.2 hnum) fun hdet => ?_
    rw [ha] at hdet
    cases hdet
  | wroteWreg hc => exact hs.updIfq hc rfl (hs.ctx _ hc).rings.2.2 fun hdet => ((hs.ctx _ hc).detached hdet).2.2.1
  | setPc hc => exact hs.updIfq hc rfl (hs.ctx _ hc).rings.2.2 fun hdet => ((hs.ctx _ hc).detached hdet).2.2.1

/-- While the latch is clear it holds nothing and the engine is sound: kept by every step. -/
theorem step_sound {s t : State} (hs : s.latch.set = false → s.latch = .reset ∧ EngineSound s) (h : step s = .next t)
    (hl : t.latch.set = false) : t.latch = .reset ∧ EngineSound t := by
  obtain ⟨_, rfl⟩ | ⟨_, w, rest, i, _, _, hexec⟩ | ⟨_, w, rest, e, _, _, rfl⟩ | ⟨_, _, rfl⟩ | ⟨_, _, _, _, rfl⟩ :=
    step_cases s t h
  case inl => exact hs hl
  case inr.inl =>
    obtain ⟨s', r, hp, rfl⟩ := exec_performed hexec hl
    have hlatch : s'.latch = s.latch := hp.within.latch
    obtain ⟨hreset, hsound⟩ := hs ((congrArg FatalLatch.set hlatch).symm.trans hl)
    exact ⟨hlatch.trans hreset, (hp.sound (hsound.congr (t := s.accept rest w) rfl rfl)).congr rfl rfl⟩
  case inr.inr.inl =>
    rw [rejectHeader_latch (s := s.accept rest w)] at hl ⊢
    obtain ⟨hreset, hsound⟩ := hs hl
    exact ⟨hreset, hsound.congr (rejectHeader_keeps e (s.accept rest w)).1 (rejectHeader_eng e (s.accept rest w))⟩
  case inr.inr.inr.inl => exact ⟨rfl, (engineOk_iff _).mp (engineOk_of_reset rfl)⟩
  case inr.inr.inr.inr =>
    obtain ⟨hreset, hsound⟩ := hs hl
    exact ⟨hreset, hsound.congr rfl rfl⟩

/-- Settles O10: the invariants context by context and core by core (`EngineSound`), kept by every command. -/
theorem invKeptByStep : Obligations.InvKeptByStep := by
  rintro s t ⟨hvalid, hwf, hlatch, hengine⟩ h
  obtain ⟨hcfg, hmem⟩ := configurationAndMemoryFormKept s t h
  have hsound := step_sound (fun hl => ⟨hlatch hl, (engineOk_iff s).mp (hengine hl)⟩) h
  exact ⟨hcfg ▸ hvalid, hmem hwf, fun hl => (hsound hl).1, fun hl => (engineOk_iff t).mpr (hsound hl).2⟩

end Sys2Proof.Machine

/-! PROOFS. What the invariants say of the oldest and the youngest instruction, and COMMIT where it does not retire
(42_commit.md R230). -/

namespace Sys2Proof.Machine

open Sys2Proof.Safety

/-! ### The registers a context holds -/

section Holds

variable {s : State} {c : Nat} (h : EngineSound s) (hc : c < s.cfg.numContexts) (ha : (s.ctx c).attached = true)

include h hc ha

/-- The register of a live entry is ALLOC (10_state.md R58). -/
theorem EngineSound.alloc_of_mem {e : Entry} {p : Nat} (he : e ∈ liveEntries (s.ctx c) .rob) (hp : e.physreg = some p) :
    (s.reg (s.ctx c).core (bankOf e.archreg.toNat) p).state = .alloc := by
  have hchain := (h.ctx c hc).bufs.chains ha e.archreg.toNat e.archreg.isLt
  have hlt := hchain.physreg_lt (mem_writersOf.mpr ⟨he, rfl, by rw [hp]; rfl⟩) hp
  refine RegState.allocs_pos (Nat.lt_of_lt_of_le ?_ (h.owns_le hc ha hlt))
  exact List.length_pos_of_mem (List.mem_filter.mpr ⟨he, by simp [hp]⟩)

/-- A committed mapping is ARCHITECTED (10_state.md R58). -/
theorem EngineSound.architected_of_cmap {a p : Nat} (ha64 : a < 64) (hp : cmap (s.ctx c) a = some p) :
    (s.reg (s.ctx c).core (bankOf a) p).state = .architected := by
  have hchain := (h.ctx c hc).bufs.chains ha a ha64
  have hlt := hchain.cmap_lt ((cmap_eq _ _).symm.trans hp)
  refine RegState.architects_pos (Nat.lt_of_lt_of_le ?_ (h.commits_le hc ha hlt))
  exact List.length_pos_of_mem (List.mem_filter.mpr ⟨List.mem_range.mpr ha64, by simp [hp]⟩)

end Holds

/-! ### The oldest instruction -/

section Oldest

variable {s : State} {c : Nat} (h : EngineSound s) (hc : c < s.cfg.numContexts) (hnum : (s.ctx c).robRing.num ≠ 0)

include h hc hnum

theorem EngineSound.liveRob_eq_cons : ∃ E, liveEntries (s.ctx c) .rob = (s.ctx c).oldest :: E := by
  rw [liveEntries, Context.ring_rob, liveSlots_eq_head_cons (h.ctx c hc).rings.1 hnum]
  exact ⟨_, rfl⟩

theorem EngineSound.oldest_matched (he : (s.ctx c).oldest.eaComp = true) :
    (s.ctx c).lsqRing.num ≠ 0 ∧ ((s.ctx c).entry .lsq (s.ctx c).lsqRing.head).seq = (s.ctx c).oldest.seq := by
  obtain ⟨E, hE⟩ := h.liveRob_eq_cons hc hnum
  have hbufs := (h.ctx c hc).bufs
  rw [hE] at hbufs
  obtain ⟨l, M, hM, hseq, _⟩ := hbufs.seqs_of_cons he
  have hlsq : (s.ctx c).lsqRing.num ≠ 0 := fun h0 => by
    rw [liveEntries_of_num_eq_zero (b := .lsq) h0] at hM
    cases hM
  rw [liveEntries, Context.ring_lsq, liveSlots_eq_head_cons (h.ctx c hc).rings.2.1 hlsq, List.map_cons] at hM
  rw [(List.cons.inj hM).1]
  exact ⟨hlsq, hseq⟩

/-- The register step of COMMIT meets no defect. -/
theorem EngineSound.commitReg_succeeds (ha : (s.ctx c).attached = true) :
    ∃ t, commitReg (s.ctx c).core (s.ctx c).oldest s = .ok t := by
  obtain ⟨E, hE⟩ := h.liveRob_eq_cons hc hnum
  have hmem : (s.ctx c).oldest ∈ liveEntries (s.ctx c) .rob := by rw [hE]; exact List.mem_cons_self
  refine Machine.commitReg_succeeds fun p hp => ⟨h.alloc_of_mem hc ha hmem hp, ?_⟩
  obtain ⟨old, hold⟩ := robEntryOk_exists_old ((h.ctx c hc).bufs.rob _ hmem) hp
  refine ⟨old, hold, h.architected_of_cmap hc ha (BitVec.isLt _) ?_⟩
  rw [cmap_eq, hE, writersOf_cons, writersOf_singleton_of _ rfl hp]
  exact hold

end Oldest

/-! ### COMMIT otherwise -/

theorem partnerCheck_ne_desync {x : Context} {e : Entry}
    (h : e.eaComp = true → x.lsqRing.num ≠ 0 ∧ (x.entry .lsq x.lsqRing.head).seq = e.seq) : partnerCheck x e ≠ .desync := by
  cases he : e.eaComp with
  | false => rw [partnerCheck_ready fun h => absurd (he.symm.trans h) (by decide)]; decide
  | true =>
    obtain ⟨hnum, hseq⟩ := h he
    cases hcompleted : (x.entry .lsq x.lsqRing.head).completed with
    | false => rw [partnerCheck_notReady he hnum hseq hcompleted]; decide
    | true => rw [partnerCheck_ready fun _ => ⟨hnum, hseq, hcompleted⟩]; decide

/-- Where the invariants hold COMMIT of an attached context raises no defect. -/
theorem EngineSound.commit_latch {s t : State} {c : BitVec 8} (h : EngineSound s) (hl : s.latch.set = false)
    (hc : c.toNat < s.cfg.numContexts) (ha : (s.ctx c.toNat).attached = true) (hexec : exec (.commit c) s = .next t) :
    t.latch.set = false := by
  obtain ⟨u, r, hlatch, hbody⟩ : ∃ u r, u.latch = s.latch ∧ exec (.commit c) s = perform (.commit c) s (.done u r) := by
    by_cases hnum : (s.ctx c.toNat).robRing.num = 0
    · exact ⟨s, _, rfl, exec_commit_attached hc ha (if_pos hnum)⟩
    · cases hcompleted : (s.ctx c.toNat).oldest.completed with
      | false => exact ⟨s, _, rfl, exec_commit_attached hc ha ((if_neg hnum).trans (if_neg (by simp [hcompleted])))⟩
      | true =>
        obtain ⟨s', hreg⟩ := h.commitReg_succeeds hc hnum ha
        have hmatched := partnerCheck_ne_desync (h.oldest_matched hc hnum)
        cases hpartner : partnerCheck (s.ctx c.toNat) (s.ctx c.toNat).oldest with
        | desync => exact absurd hpartner hmatched
        | notReady =>
          refine ⟨s, .stall .notReady, rfl, exec_commit_attached hc ha ((if_neg hnum).trans ((if_pos hcompleted).trans ?_))⟩
          rw [hpartner]
        | ready =>
          obtain ⟨_, hlatch, _⟩ := SameAround.trans (commitReg_spec hreg).1.around (retireHead_around c.toNat _ s')
          refine ⟨retireHead c.toNat (s.ctx c.toNat).oldest s', .ok (commitWords (s.ctx c.toNat) (s.ctx c.toNat).oldest),
            hlatch, exec_commit_attached hc ha ((if_neg hnum).trans ((if_pos hcompleted).trans ?_))⟩
          rw [hpartner, hreg]
          rfl
  rw [hbody, perform_done _ _ _ _ hl] at hexec
  cases hexec
  exact (congrArg FatalLatch.set hlatch).trans hl

/-- Settles O40: the checks of COMMIT in their order, and what the invariants say of the head. -/
theorem commitOtherwise : Obligations.CommitOtherwise := by
  intro s c hl hc ha x e l bank matched
  refine ⟨fun hnum => ?_, fun hnum hcompleted => ?_, fun hnum hcompleted hno => ?_, fun hnum hcompleted hmatched he hl' => ?_,
    fun hnum hcompleted hmatched hpartner hregs => ?_, fun hengine t hexec => ((engineOk_iff s).mp hengine).commit_latch hl hc ha hexec⟩
  · exact (exec_commit_attached hc ha (if_pos hnum)).trans (perform_done _ s _ _ hl)
  · exact (exec_commit_attached hc ha ((if_neg hnum).trans (if_neg (Bool.eq_false_iff.mp hcompleted)))).trans
      (perform_done _ s _ _ hl)
  · refine ⟨_, (exec_commit_attached hc ha (r := .fatal s .lsqDesync) ((if_neg hnum).trans ((if_pos hcompleted).trans ?_))).trans
      (perform_fatal _ s _ _ hl), latched_raiseFatal s _ _⟩
    rw [partnerCheck_desync hno]
  · refine (exec_commit_attached hc ha (r := .done s (.stall .notReady)) ((if_neg hnum).trans ((if_pos hcompleted).trans ?_))).trans
      (perform_done _ s _ _ hl)
    obtain ⟨hlsq, hseq⟩ := hmatched he
    rw [partnerCheck_notReady he hlsq hseq hl']
  · refine ⟨_, (exec_commit_attached hc ha (r := .fatal s .commitRegState)
      ((if_neg hnum).trans ((if_pos hcompleted).trans ?_))).trans (perform_fatal _ s _ _ hl), latched_raiseFatal s _ _⟩
    obtain ⟨p, hp, hbad⟩ := hregs
    rw [partnerCheck_ready fun he => ⟨(hmatched he).1, (hmatched he).2, hpartner he⟩, commitReg_fails hp hbad]
    rfl

end Sys2Proof.Machine

/-! PROOFS. Squashing the `n` youngest instructions (43_rollback.md R260, R261): the state it leads to, in the words of the
statements. -/

namespace Sys2Proof.Machine

open Sys2Proof.Safety

/-! ### What one squash takes off the buffers -/

/-- The slots of a buffer that a squash of the youngest instruction discards. -/
def Context.lastSlots (x : Context) : Buf → List Nat
  | .rob => [x.robRing.last]
  | .lsq => if x.youngest.eaComp then [x.lsqRing.last] else []

/-- Of a list one element longer, one more is dropped. -/
theorem drop_append_last {α : Type} {l : List α} (y : α) {m : Nat} (n : Nat) (hm : l.length = m) :
    (l ++ [y]).drop (m + 1 - (n + 1)) = l.drop (m - n) ++ [y] := by
  rw [Nat.add_sub_add_right, List.drop_append_of_le_length (by omega)]

theorem take_append_last {α : Type} {l : List α} (y : α) {m : Nat} (n : Nat) (hm : l.length = m) :
    (l ++ [y]).take (m + 1 - (n + 1)) = l.take (m - n) := by
  rw [Nat.add_sub_add_right, List.take_append_of_le_length (by omega)]

section One

variable {c : Nat} {s s1 : State} (hone : SquashedOne c s s1) (hrings : ContextRingsOk (s.ctx c))
  (hnum : (s.ctx c).robRing.num ≠ 0)

include hone hnum in
theorem SquashedOne.robNum : (s.ctx c).robRing.num = (s1.ctx c).robRing.num + 1 := by
  rw [hone.robRing, Ring.popTail_num]
  omega

include hone in
theorem SquashedOne.lsqNum : (s.ctx c).lsqRing.num
    = (s1.ctx c).lsqRing.num + if (s.ctx c).youngest.eaComp then 1 else 0 := by
  rw [hone.lsqRing]
  split
  · have := (hone.partner ‹_›).1
    rw [Ring.popTail_num]
    omega
  · rfl

include hone hrings hnum

theorem squashed_succ (n : Nat) : squashed (s.ctx c) (n + 1) = squashed (s1.ctx c) n ++ [(s.ctx c).youngest] := by
  rw [squashed, hone.liveRob hrings.1 hnum, hone.robNum hnum, drop_append_last (m := (s1.ctx c).robRing.num) _ n (liveEntries_length _ .rob)]
  rfl

theorem squashedMems_succ (n : Nat) : squashedMems (s.ctx c) (n + 1)
    = squashedMems (s1.ctx c) n + if (s.ctx c).youngest.eaComp then 1 else 0 := by
  rw [squashedMems, squashed_succ hone hrings hnum, List.filter_append, List.length_append, length_filter_singleton]
  rfl

theorem squashedInIq_succ (n : Nat) : squashedInIq (s.ctx c) (n + 1)
    = squashedInIq (s1.ctx c) n + if (s.ctx c).youngest.inIq then 1 else 0 := by
  rw [squashedInIq, squashed_succ hone hrings hnum, List.filter_append, List.length_append, length_filter_singleton]
  rfl

/-- The live slots of a buffer before one squash and after it. -/
theorem SquashedOne.liveSlots (b : Buf) :
    liveSlots ((s.ctx c).ring b) = Safety.liveSlots ((s1.ctx c).ring b) ++ (s.ctx c).lastSlots b := by
  have ⟨hrob, hlsq, _⟩ := hrings
  cases b with
  | rob =>
    rw [Context.ring_rob, Context.ring_rob, hone.robRing]
    exact liveSlots_eq_append_last hrob hnum
  | lsq =>
    rw [Context.ring_lsq, Context.ring_lsq, hone.lsqRing, Context.lastSlots]
    split
    · exact liveSlots_eq_append_last hlsq (hone.partner ‹_›).1
    · exact (List.append_nil _).symm

theorem squashedSlots_succ (n : Nat) (b : Buf) :
    squashedSlots (s.ctx c) (n + 1) b = squashedSlots (s1.ctx c) n b ++ (s.ctx c).lastSlots b := by
  have hlive := hone.liveSlots hrings hnum b
  cases b with
  | rob =>
    rw [Context.ring_rob, Context.ring_rob] at hlive
    rw [squashedSlots, hone.robNum hnum, hlive]
    exact drop_append_last _ n (liveSlots_length _)
  | lsq =>
    rw [Context.ring_lsq, Context.ring_lsq] at hlive
    rw [squashedSlots, squashedMems_succ hone hrings hnum, hone.lsqNum, hlive, Context.lastSlots]
    split
    · exact drop_append_last _ _ (liveSlots_length _)
    · rw [List.append_nil, List.append_nil]
      rfl

theorem undoneStores_succ (n : Nat) :
    undoneStores (s.ctx c) (n + 1) = (s.ctx c).undoneByOne ++ undoneStores (s1.ctx c) n := by
  rw [undoneStores, squashedMems_succ hone hrings hnum, hone.lsqNum, Context.undoneByOne]
  cases he : (s.ctx c).youngest.eaComp with
  | true =>
    rw [hone.liveLsq_of_mem hrings.2.1 he, if_pos rfl, 
      drop_append_last (m := (s1.ctx c).lsqRing.num) _ _ (liveEntries_length _ .lsq), List.reverse_append,
      List.filter_append, List.reverse_singleton, List.filter_singleton, Bool.cond_eq_ite, Bool.true_and]
    rfl
  | false =>
    rw [← hone.liveLsq_of_not_mem he]
    rfl

theorem firstWriter_succ (n a : Nat) : firstWriter (squashed (s.ctx c) (n + 1)) a
    = (firstWriter (squashed (s1.ctx c) n) a).or (firstWriter [(s.ctx c).youngest] a) := by
  rw [squashed_succ hone hrings hnum, firstWriter, List.find?_append]
  rfl

end One

theorem firstWriter_singleton (e : Entry) (a : Nat) :
    firstWriter [e] a = if a = e.archreg.toNat ∧ e.physreg.isSome = true then some e else none := by
  rw [firstWriter, List.find?_singleton]
  simp only [Bool.and_eq_true, decide_eq_true_eq, eq_comm (a := a)]

/-- The memberships one squash leaves, as one filter. -/
theorem SquashedOne.wq_eq {c : Nat} {s t : State} (h : SquashedOne c s t) (k : Nat) (q : Queue) : (t.core k).wq q
    = if k = (s.ctx c).core then
        ((s.core k).wq q).filter (fun m => !(decide (m.ctx = c) && ((s.ctx c).lastSlots m.buf).contains m.idx))
      else (s.core k).wq q := by
  rw [h.wq]
  split
  · cases he : (s.ctx c).youngest.eaComp with
    | true =>
      rw [if_pos rfl, dropEntry, dropEntry, List.filter_filter]
      refine List.filter_congr fun m _ => ?_
      cases hb : m.buf <;> simp [Membership.isOf, Context.lastSlots, hb, he]
    | false =>
      rw [if_neg (by decide), dropEntry]
      refine List.filter_congr fun m _ => ?_
      cases hb : m.buf <;> simp [Membership.isOf, Context.lastSlots, hb, he]
  · rfl

/-- The answers already decided that a squash used did not fault. -/
def NoneFaults (s : State) (n : Nat) : Prop := ∀ j < n, (s.env.draws[j]?).any drawFaults = false

/-! ### The whole squash -/

/-- The `n` youngest instructions of context `c` have been squashed. -/
structure Squashed (c n : Nat) (s t : State) : Prop where
  frame : SquashFrame c s t
  liveRob : liveEntries (t.ctx c) .rob = (liveEntries (s.ctx c) .rob).take ((s.ctx c).robRing.num - n)
  liveLsq : liveEntries (t.ctx c) .lsq
    = (liveEntries (s.ctx c) .lsq).take ((s.ctx c).lsqRing.num - squashedMems (s.ctx c) n)
  regs : RegsUndone s t c n
  wregs : WregsUndone s t c n
  queues : QueuesUndone s t c n
  icount : (t.ctx c).icount = (s.ctx c).icount - squashedInIq (s.ctx c) n
  undoes : Undoes (undoneStores (s.ctx c) n) s t
  accepted : NoneFaults s (undoneStores (s.ctx c) n).length
  cmap : ∀ a < 64, cmap (t.ctx c) a = cmap (s.ctx c) a
  slots : ∀ b, liveSlots ((s.ctx c).ring b) = liveSlots ((t.ctx c).ring b) ++ squashedSlots (s.ctx c) n b
  entry : ∀ b, ∀ i ∈ liveSlots ((t.ctx c).ring b), (t.ctx c).entry b i = (s.ctx c).entry b i

theorem squashed_zero (x : Context) : squashed x 0 = [] := by
  rw [squashed, Nat.sub_zero, List.drop_eq_nil_iff, liveEntries_length]
  exact Nat.le_refl _

theorem squashedMems_zero (x : Context) : squashedMems x 0 = 0 := by rw [squashedMems, squashed_zero]; rfl

theorem squashedInIq_zero (x : Context) : squashedInIq x 0 = 0 := by rw [squashedInIq, squashed_zero]; rfl

theorem squashedSlots_zero (x : Context) (b : Buf) : squashedSlots x 0 b = [] := by
  cases b
  · rw [squashedSlots, List.drop_eq_nil_iff, liveSlots_length, Nat.sub_zero]
  · rw [squashedSlots, List.drop_eq_nil_iff, liveSlots_length, squashedMems_zero, Nat.sub_zero]

theorem undoneStores_zero (x : Context) : undoneStores x 0 = [] := by
  rw [undoneStores, squashedMems_zero, Nat.sub_zero, List.drop_eq_nil_iff.mpr (by rw [liveEntries_length]; rfl)]
  rfl

theorem Squashed.refl (c : Nat) (s : State) : Squashed c 0 s s where
  frame := .refl c s
  liveRob := by rw [Nat.sub_zero, List.take_of_length_le (by rw [liveEntries_length]; rfl)]
  liveLsq := by rw [squashedMems_zero, Nat.sub_zero, List.take_of_length_le (by rw [liveEntries_length]; rfl)]
  regs := by
    refine ⟨fun k b p => ?_, fun a => ?_⟩
    · simp [squashed_zero]
    · rw [squashed_zero]
      rfl
  wregs a := by
    rw [squashed_zero]
    rfl
  queues := by
    refine ⟨fun k => ?_, fun k q => ?_⟩
    · simp [squashedInIq_zero]
    · simp [squashedSlots_zero]
  icount := by rw [squashedInIq_zero, Nat.sub_zero]
  undoes := by
    rw [undoneStores_zero]
    exact .refl s
  accepted := by
    rw [undoneStores_zero]
    exact nofun
  cmap _ _ := rfl
  slots b := by rw [squashedSlots_zero, List.append_nil]
  entry _ _ _ := rfl

section Cons

variable {c n : Nat} {s s1 t : State} (h : EngineSound s) (hc : c < s.cfg.numContexts) (ha : (s.ctx c).attached = true)
  (hnum : (s.ctx c).robRing.num ≠ 0) (hone : SquashedOne c s s1) (hrest : Squashed c n s1 t)

include h hc hnum hone hrest

theorem regsUndone_succ : RegsUndone s t c (n + 1) := by
  obtain ⟨hregs, hrename⟩ := hrest.regs
  have hrings := (h.ctx c hc).rings
  refine ⟨fun k b p => ?_, fun a => ?_⟩
  · rw [hregs, hone.frame.core, hone.reg, squashed_succ hone hrings hnum, List.any_append, List.any_cons, List.any_nil]
    by_cases hk : k = (s.ctx c).core
    · simp only [hk, true_and, Bool.or_false, Bool.or_eq_true, Bool.and_eq_true, decide_eq_true_eq]
      split <;> split <;> simp_all
    · simp only [hk, false_and, if_false]
  · rw [hrename, hone.rename, firstWriter_succ hone hrings hnum, firstWriter_singleton]
    cases hw : firstWriter (squashed (s1.ctx c) n) a with
    | none =>
      split
      · rw [Option.none_or]
        rfl
      · rfl
    | some w =>
      have hmem : w ∈ liveEntries (s.ctx c) .rob := by
        rw [hone.liveRob hrings.1 hnum]
        exact List.mem_append_left _ (List.mem_of_mem_drop (List.mem_of_find?_eq_some hw))
      have hwriter := List.find?_some hw
      obtain ⟨p, hp⟩ := Option.isSome_iff_exists.mp (Bool.and_eq_true_iff.mp hwriter).2
      obtain ⟨old, hold⟩ := robEntryOk_exists_old ((h.ctx c hc).bufs.rob w hmem) hp
      simp [hold]

theorem wregsUndone_succ : WregsUndone s t c (n + 1) := by
  intro a
  rw [hrest.wregs, hone.wreg, firstWriter_succ hone (h.ctx c hc).rings hnum, firstWriter_singleton]
  cases firstWriter (squashed (s1.ctx c) n) a with
  | none => split <;> rfl
  | some w => rfl

theorem queuesUndone_succ : QueuesUndone s t c (n + 1) := by
  obtain ⟨hiq, hwq⟩ := hrest.queues
  have hrings := (h.ctx c hc).rings
  refine ⟨fun k => ?_, fun k q => ?_⟩
  · rw [hiq, hone.iqCount, hone.frame.core, squashedInIq_succ hone hrings hnum]
    split <;> omega
  · rw [hwq, hone.wq_eq, hone.frame.core]
    split
    · rw [List.filter_filter]
      refine List.filter_congr fun m _ => ?_
      rw [squashedSlots_succ hone hrings hnum]
      cases decide (m.ctx = c) <;> simp [Bool.and_comm]
    · rfl

/-- Squashing the youngest instruction and then `n` more. -/
theorem Squashed.succ (ha : (s.ctx c).attached = true)
    (haccepts : (s.ctx c).undoneByOne ≠ [] → (s.env.draws[0]?).any drawFaults = false) : Squashed c (n + 1) s t := by
  have hrings := (h.ctx c hc).rings
  have ⟨hrob, hlsq, _⟩ := hrings
  have hlive := hone.liveRob hrob hnum
  have hundoes := hone.undoes.trans hrest.undoes
  rw [← undoneStores_succ hone hrings hnum] at hundoes
  refine ⟨hone.frame.trans hrest.frame, ?_, ?_, regsUndone_succ h hc hnum hone hrest, wregsUndone_succ h hc hnum hone hrest,
    queuesUndone_succ h hc hnum hone hrest, ?_, hundoes, fun j hj => ?_, fun a ha64 => ?_, fun b => ?_, fun b i hi => ?_⟩
  · rw [hrest.liveRob, hlive, hone.robNum hnum,
      take_append_last (m := (s1.ctx c).robRing.num) _ n (liveEntries_length _ .rob)]
  · rw [hrest.liveLsq, squashedMems_succ hone hrings hnum, hone.lsqNum]
    cases he : (s.ctx c).youngest.eaComp with
    | true =>
      rw [hone.liveLsq_of_mem hlsq he, if_pos rfl,
        take_append_last (m := (s1.ctx c).lsqRing.num) _ _ (liveEntries_length _ .lsq)]
    | false =>
      rw [← hone.liveLsq_of_not_mem he]
      rfl
  · rw [hrest.icount, hone.icount, squashedInIq_succ hone hrings hnum]
    omega
  · rw [undoneStores_succ hone hrings hnum, List.length_append] at hj
    have hdraws := hrest.accepted
    rw [NoneFaults, hone.undoes.draws] at hdraws
    by_cases hlt : j < (s.ctx c).undoneByOne.length
    · have hne : (s.ctx c).undoneByOne ≠ [] := List.length_pos_iff.mp (by omega)
      have hle : (s.ctx c).undoneByOne.length ≤ 1 := by
        rw [Context.undoneByOne]
        split <;> simp
      rw [show j = 0 by omega]
      exact haccepts hne
    · have := hdraws (j - (s.ctx c).undoneByOne.length) (by omega)
      rwa [List.getElem?_drop, Nat.add_sub_cancel' (by omega)] at this
  · rw [hrest.cmap a ha64, squashedOne_cmap h hc ha hnum hone ha64]
  · rw [hone.liveSlots hrings hnum b, hrest.slots b, squashedSlots_succ hone hrings hnum, List.append_assoc]
  · rw [hrest.entry b i hi]
    cases b with
    | rob =>
      have hlast := last_not_mem_liveSlots_popTail hrob hnum
      rw [← hone.robRing] at hlast
      refine hone.entryRob i fun h => hlast (h ▸ ?_)
      have hslots := hrest.slots .rob
      rw [Context.ring_rob] at hslots
      rw [hslots]
      exact List.mem_append_left _ hi
    | lsq => exact hone.entryLsq i

end Cons

end Sys2Proof.Machine

/-! PROOFS. Where the invariants hold a squash succeeds, unless the memory faults a replay (20_memory.md R80, 43_rollback.md
R260). -/

namespace Sys2Proof.Machine

open Sys2Proof.Safety

/-! ### The youngest instruction -/

section Youngest

variable {s : State} {c : Nat} (h : EngineSound s) (hc : c < s.cfg.numContexts) (hnum : (s.ctx c).robRing.num ≠ 0)

include h hc hnum

theorem EngineSound.liveRob_eq_append : ∃ E, liveEntries (s.ctx c) .rob = E ++ [(s.ctx c).youngest] := by
  rw [liveEntries, Context.ring_rob, liveSlots_eq_append_last (h.ctx c hc).rings.1 hnum, List.map_append]
  exact ⟨_, rfl⟩

theorem EngineSound.partnered : (s.ctx c).partnered := by
  intro he
  obtain ⟨E, hE⟩ := h.liveRob_eq_append hc hnum
  have hbufs := (h.ctx c hc).bufs
  rw [hE] at hbufs
  obtain ⟨M, l, hM, hseq, _⟩ := hbufs.seqs_of_append he
  have hlsq : (s.ctx c).lsqRing.num ≠ 0 := fun h0 => by
    rw [liveEntries_of_num_eq_zero (b := .lsq) h0] at hM
    exact List.append_ne_nil_of_right_ne_nil _ (List.cons_ne_nil _ _) hM.symm
  rw [liveEntries, Context.ring_lsq, liveSlots_eq_append_last (h.ctx c hc).rings.2.1 hlsq, List.map_append] at hM
  obtain rfl := List.singleton_injective (List.append_inj' hM rfl).2
  exact ⟨hlsq, hseq⟩

theorem EngineSound.youngest_alloc (ha : (s.ctx c).attached = true) {p : Nat} (hp : (s.ctx c).youngest.physreg = some p) :
    (s.reg (s.ctx c).core (bankOf (s.ctx c).youngest.archreg.toNat) p).state = .alloc := by
  obtain ⟨E, hE⟩ := h.liveRob_eq_append hc hnum
  exact h.alloc_of_mem hc ha (hE ▸ List.mem_append_right _ (List.mem_singleton_self _)) hp

end Youngest

/-! ### The answers a squash uses -/

theorem nextDraw_of_getElem? {s : State} {d : Nat} (h : s.env.draws[0]? = some d) : s.nextDraw = d := by
  unfold State.nextDraw
  cases hd : s.env.draws with
  | nil =>
    rw [hd] at h
    cases h
  | cons d' l =>
    rw [hd] at h
    exact Option.some.inj h

theorem accepts_getElem? {s : State} {n j : Nat} (h : Accepts s n) (hj : j < n) :
    ∃ d, s.env.draws[j]? = some d ∧ drawFaults d = false := by
  have haccept := h j hj
  cases hd : s.env.draws[j]? with
  | none =>
    rw [hd] at haccept
    cases haccept
  | some d =>
    rw [hd] at haccept
    exact ⟨d, rfl, Bool.not_eq_true' _ ▸ haccept⟩

/-- The next answer after some replays, where it is already decided. -/
theorem Undoes.nextDraw {u : List Entry} {s t : State} (h : Undoes u s t) {d : Nat} (hd : s.env.draws[u.length]? = some d) :
    t.nextDraw = d := by
  refine nextDraw_of_getElem? ?_
  rw [h.draws, List.getElem?_drop]
  exact hd

theorem any_drawFaults_eq_false {s : State} (h : drawFaults s.nextDraw = false) :
    (s.env.draws[0]?).any drawFaults = false := by
  cases hd : s.env.draws[0]? with
  | none => rfl
  | some d => exact nextDraw_of_getElem? hd ▸ h

theorem squashEntry_accepts {c : Nat} {s t : State} (h : squashEntry c s = .ok t) (hne : (s.ctx c).undoneByOne ≠ []) :
    (s.env.draws[0]?).any drawFaults = false := by
  obtain ⟨s1, s2, hpartner, _, _⟩ := squashEntry_ok c s t h
  have hboth : ((s.ctx c).youngest.eaComp && (s.ctx c).youngestMem.isStore) = true := by
    by_contra hno
    exact hne (if_neg hno)
  obtain ⟨he, hstore⟩ := Bool.and_eq_true_iff.mp hboth
  obtain ⟨hno, _⟩ | ⟨_, _, _, haccepts, _⟩ := squashPartner_ok c _ s s1 hpartner
  · rw [he] at hno
    cases hno
  · exact any_drawFaults_eq_false (haccepts hstore)

theorem undoneByOne_cases (x : Context) : x.undoneByOne = [] ∨ ∃ l, x.undoneByOne = [l] := by
  unfold Context.undoneByOne
  split
  · exact .inr ⟨_, rfl⟩
  · exact .inl rfl

/-! ### Success or a fault -/

/-- A squash of `n` instructions of context `c` from `s` stops at the replay of `l`, which the memory faults: `m` instructions have
been squashed, up to `u`, and then `t` is the defect point. -/
structure SquashStops (c n : Nat) (s t : State) (m : Nat) (u : State) (l : Entry) : Prop where
  squashed : Squashed c m s u
  stores : ∃ rest, undoneStores (s.ctx c) n = undoneStores (s.ctx c) m ++ l :: rest
  faults : drawFaults u.nextDraw = true
  state : t = replayWrite l.memAddr l.memSize l.shadowMem u

section Total

variable {c : Nat} {s : State} (h : EngineSound s) (hc : c < s.cfg.numContexts) (ha : (s.ctx c).attached = true)

include h hc ha

/-- The youngest instruction is squashed, unless its replay faults. -/
theorem EngineSound.squashEntry_total (hnum : (s.ctx c).robRing.num ≠ 0) : (∃ t, squashEntry c s = .ok t)
    ∨ ∃ l, (s.ctx c).undoneByOne = [l] ∧ drawFaults s.nextDraw = true
      ∧ squashEntry c s = .error (.memReplayFault, replayWrite l.memAddr l.memSize l.shadowMem s) := by
  have hpartner := h.partnered hc hnum
  have halloc := fun p => h.youngest_alloc hc hnum ha (p := p)
  obtain hnil | ⟨l, hl⟩ := undoneByOne_cases (s.ctx c)
  · exact .inl (squashEntry_succeeds hpartner (fun hne => absurd hnil hne) halloc)
  · cases hfault : drawFaults s.nextDraw with
    | false => exact .inl (squashEntry_succeeds hpartner (fun _ => hfault) halloc)
    | true => exact .inr ⟨l, hl, rfl, squashEntry_faults hpartner hl hfault⟩

/-- The store a squash undoes first is the youngest instruction's. -/
theorem EngineSound.undoneStores_eq_cons (hnum : (s.ctx c).robRing.num ≠ 0) {l : Entry} (hl : (s.ctx c).undoneByOne = [l])
    (n : Nat) : ∃ rest, undoneStores (s.ctx c) (n + 1) = l :: rest := by
  obtain ⟨t, ht⟩ := squashEntry_succeeds (c := c) (s := { s with env := { s.env with draws := [0] } })
    (h.partnered hc hnum) (fun _ => rfl) fun p => h.youngest_alloc hc hnum ha (p := p)
  have hstores : undoneStores (s.ctx c) (n + 1) = (s.ctx c).undoneByOne ++ undoneStores (t.ctx c) n :=
    undoneStores_succ (squashEntry_spec ht) (h.ctx c hc).rings hnum n
  rw [hl] at hstores
  exact ⟨_, hstores⟩

end Total

/-- Where the invariants hold, a squash of entries that the ROB holds succeeds or stops at a replay that faults. -/
theorem EngineSound.squashMany_total {c : Nat} : ∀ {n : Nat} {s : State}, EngineSound s → c < s.cfg.numContexts →
    (s.ctx c).attached = true → n ≤ (s.ctx c).robRing.num →
    (∃ t, Machine.squashMany c n s = .ok t ∧ Squashed c n s t)
      ∨ ∃ t m u l, Machine.squashMany c n s = .error (.memReplayFault, t) ∧ SquashStops c n s t m u l := by
  intro n
  induction n with
  | zero => exact fun {s} _ _ _ _ => .inl ⟨s, rfl, .refl c s⟩
  | succ n ih =>
    intro s h hc ha hn
    have hnum : (s.ctx c).robRing.num ≠ 0 := by omega
    obtain ⟨s1, h1⟩ | ⟨l, hl, hfault, herror⟩ := h.squashEntry_total hc ha hnum
    · have hone := squashEntry_spec h1
      have haccepts := squashEntry_accepts h1
      have hmany : Machine.squashMany c (n + 1) s = Machine.squashMany c n s1 := by rw [Machine.squashMany, h1]
      rw [hmany]
      obtain ⟨t, ht, hrest⟩ | ⟨t, m, u, l, herror, hstops⟩ := ih (h.squashedOne hc ha hnum hone) (hone.frame.cfg ▸ hc)
        (hone.attached.trans ha) (by have := hone.robNum hnum; omega)
      · exact .inl ⟨t, ht, .succ h hc hnum hone hrest ha haccepts⟩
      · obtain ⟨hsquashed, ⟨rest, hrest⟩, hfaults, hstate⟩ := hstops
        refine .inr ⟨t, m + 1, u, l, herror, .succ h hc hnum hone hsquashed ha haccepts, ⟨rest, ?_⟩, hfaults, hstate⟩
        have hrings := (h.ctx c hc).rings
        rw [undoneStores_succ hone hrings hnum, undoneStores_succ hone hrings hnum, hrest, List.append_assoc]
    · refine .inr ⟨_, 0, s, l, ?_, .refl c s, ?_, hfault, rfl⟩
      · rw [Machine.squashMany, herror]
      · rw [undoneStores_zero]
        exact h.undoneStores_eq_cons hc ha hnum hl n

section Outcome

variable {c n : Nat} {s : State} (h : EngineSound s) (hc : c < s.cfg.numContexts) (ha : (s.ctx c).attached = true)
  (hn : n ≤ (s.ctx c).robRing.num)

include h hc ha hn

/-- A squash that the memory accepts succeeds. -/
theorem EngineSound.squashMany_accepted (haccepts : Accepts s (undoneStores (s.ctx c) n).length) :
    ∃ t, Machine.squashMany c n s = .ok t ∧ Squashed c n s t := by
  refine (h.squashMany_total hc ha hn).resolve_right ?_
  rintro ⟨t, m, u, l, _, hsquashed, ⟨rest, hrest⟩, hfaults, _⟩
  have hlt : (undoneStores (s.ctx c) m).length < (undoneStores (s.ctx c) n).length := by
    rw [hrest, List.length_append, List.length_cons]
    omega
  obtain ⟨d, hd, hgood⟩ := accepts_getElem? haccepts hlt
  rw [hsquashed.undoes.nextDraw hd, hgood] at hfaults
  cases hfaults

/-- A squash whose replay of the store `l` is the first that the memory faults stops there. -/
theorem EngineSound.squashMany_faulted {j : Nat} {l : Entry} (haccepts : Accepts s j)
    (hfault : (s.env.draws[j]?).any drawFaults = true) (hl : (undoneStores (s.ctx c) n)[j]? = some l) :
    ∃ t m u, Machine.squashMany c n s = .error (.memReplayFault, t) ∧ SquashStops c n s t m u l
      ∧ undoneStores (s.ctx c) m = (undoneStores (s.ctx c) n).take j := by
  obtain ⟨t, _, hsquashed⟩ | ⟨t, m, u, l', herror, hstops⟩ := h.squashMany_total hc ha hn
  · have hnot := hsquashed.accepted j (List.getElem?_eq_some_iff.mp hl).1
    rw [hfault] at hnot
    cases hnot
  · obtain ⟨rest, hrest⟩ := hstops.stores
    have hj : (undoneStores (s.ctx c) m).length = j := by
      obtain hlt | heq | hgt := Nat.lt_trichotomy (undoneStores (s.ctx c) m).length j
      · obtain ⟨d, hd, hgood⟩ := accepts_getElem? haccepts hlt
        have hfaults := hstops.faults
        rw [hstops.squashed.undoes.nextDraw hd, hgood] at hfaults
        cases hfaults
      · exact heq
      · have hnot := hstops.squashed.accepted j hgt
        rw [hfault] at hnot
        cases hnot
    subst hj
    rw [hrest, List.getElem?_append_right (Nat.le_refl _), Nat.sub_self] at hl
    obtain rfl := Option.some.inj hl
    exact ⟨t, m, u, herror, hstops, by rw [hrest, List.take_left]⟩

end Outcome

end Sys2Proof.Machine

/-! PROOFS. What a squash writes to memory, and where it stops (20_memory.md sections 1 and 4). -/

namespace Sys2Proof.Machine

open Sys2Proof.Safety

/-! ### Bytes outside the stores -/

theorem bytesOf_length (d : Word) (n : Nat) : (bytesOf d n).length = n := by simp [bytesOf]

/-- An address outside the bytes reads as before, whichever of them land. -/
theorem Memory.read_writeMasked_outside (l : List Byte) : ∀ (m : Memory) (addr : Word) (mask a : Nat),
    (∀ k < l.length, a ≠ (addr + BitVec.ofNat 64 k).toNat) → (m.writeMasked addr l mask).read a = m.read a := by
  induction l with
  | nil => exact fun _ _ _ _ _ => rfl
  | cons v l ih =>
    intro m addr mask a h
    have h0 : a ≠ addr.toNat := by simpa using h 0 (by simp)
    have htail : ∀ k < l.length, a ≠ (addr + 1 + BitVec.ofNat 64 k).toNat := fun k hk => by
      have := h (k + 1) (by simpa using hk)
      rwa [Nat.add_comm k 1, BitVec.ofNat_add, ← BitVec.add_assoc] at this
    rw [Memory.writeMasked, ih _ _ _ _ htail]
    split
    · rw [Memory.read_writeByte, if_neg h0]
    · rfl

theorem not_covers_iff {addr : Word} {n a : Nat} : ¬ covers addr n a ↔ ∀ k < n, a ≠ (addr + BitVec.ofNat 64 k).toNat := by
  simp [covers]

/-- The bytes of a store that is undone. -/
def Entry.covers (l : Entry) (a : Nat) : Prop := Safety.covers l.memAddr l.memSize.toNat a

theorem read_writeBytes_of_not_covers (m : Memory) {l : Entry} {a : Nat} (h : ¬ l.covers a) :
    (m.writeBytes l.memAddr (bytesOf l.shadowMem l.memSize.toNat)).read a = m.read a :=
  Memory.read_writeBytes_outside _ _ _ _ (by rw [bytesOf_length]; exact not_covers_iff.mp h)

theorem replayed_outside {a : Nat} : ∀ {u : List Entry} (m : Memory), (∀ l ∈ u, ¬ l.covers a) →
    (replayed m u).read a = m.read a := by
  intro u
  induction u with
  | nil => exact fun _ _ => rfl
  | cons l u ih =>
    intro m h
    obtain ⟨hl, hu⟩ := List.forall_mem_cons.mp h
    exact (ih _ hu).trans (read_writeBytes_of_not_covers m hl)

/-- A replay, accepted or faulted, reaches the bytes of its store alone. -/
theorem replayWrite_outside {l : Entry} {a : Nat} (h : ¬ l.covers a) (s : State) :
    (replayWrite l.memAddr l.memSize l.shadowMem s).env.mem.read a = s.env.mem.read a := by
  rw [State.replayWrite_env_mem]
  split
  · exact Memory.read_writeMasked_outside _ _ _ _ _ (by rw [bytesOf_length]; exact not_covers_iff.mp h)
  · exact read_writeBytes_of_not_covers _ h

/-! ### The stores a squash undoes -/

theorem mem_undoneStores {x : Context} {n : Nat} {l : Entry} (h : l ∈ undoneStores x n) :
    l ∈ liveEntries x .lsq ∧ l.isStore = true := by
  obtain ⟨hmem, hstore⟩ := List.mem_filter.mp h
  exact ⟨List.mem_of_mem_drop (List.mem_reverse.mp hmem), hstore⟩

/-- An address outside the live stores of a context. -/
def OutsideStores (s : State) (c a : Nat) : Prop := ∀ l ∈ liveEntries (s.ctx c) .lsq, l.isStore = true → ¬ l.covers a

theorem Squashed.outside {c n a : Nat} {s t : State} (h : Squashed c n s t) (ha : OutsideStores s c a) :
    t.env.mem.read a = s.env.mem.read a := by
  rw [h.undoes.mem]
  refine replayed_outside _ fun l hl => ?_
  obtain ⟨hmem, hstore⟩ := mem_undoneStores hl
  exact ha l hmem hstore

theorem SquashStops.outside {c n m a : Nat} {s t u : State} {l : Entry} (h : SquashStops c n s t m u l)
    (ha : OutsideStores s c a) : t.env.mem.read a = s.env.mem.read a := by
  obtain ⟨rest, hrest⟩ := h.stores
  obtain ⟨hmem, hstore⟩ := mem_undoneStores (x := s.ctx c) (n := n) (l := l) (by rw [hrest]; simp)
  rw [h.state, replayWrite_outside (ha l hmem hstore)]
  exact h.squashed.outside ha

section Outside

variable {c : Nat} {s : State} (h : EngineSound s) (hc : c < s.cfg.numContexts) (ha : (s.ctx c).attached = true)

include h hc ha

/-- A squash, whether it succeeds or not, writes no byte outside the live stores. -/
theorem EngineSound.squashMany_outside {n a : Nat} (hn : n ≤ (s.ctx c).robRing.num) (hout : OutsideStores s c a) :
    (endState (Machine.squashMany c n s)).env.mem.read a = s.env.mem.read a := by
  obtain ⟨t, ht, hsquashed⟩ | ⟨t, m, u, l, ht, hstops⟩ := h.squashMany_total hc ha hn
  · rw [ht]
    exact hsquashed.outside hout
  · rw [ht]
    exact hstops.outside hout

theorem EngineSound.flushBody_outside {a : Nat} (hout : OutsideStores s c a) :
    (endState (flushBody c s)).env.mem.read a = s.env.mem.read a := by
  rw [← h.squashMany_outside hc ha (Nat.le_refl _) hout]
  unfold flushBody
  cases Machine.squashMany c (s.ctx c).robRing.num s with
  | error r => rfl
  | ok s1 =>
    dsimp only
    split <;> rfl

end Outside

/-! ### Commands that squash -/

theorem live_attached {s : State} {c i g : Nat} {b : Buf} (h : s.live c b i g = true) : (s.ctx c).attached = true :=
  ((State.live_iff s c b i g).mp h).1

theorem afterRollback_mem (c i n : Nat) (m : Bool) (s : State) : (afterRollback c i m n s).env.mem = s.env.mem := by
  cases m <;> rfl

/-- A command refused because the latch is set leaves memory alone. -/
theorem exec_mem_of_latched {i : Instr} {s t : State} (hl : s.latch.set = true) (h : exec i s = .next t) :
    t.env.mem = s.env.mem := by
  by_cases hstatus : i = .fatalStatus
  · subst hstatus
    cases h
    rfl
  · cases (exec_latched hstatus hl).symm.trans h
    rfl

theorem Performed.outside {i : Instr} {s s' : State} {r : Response} {a : Nat} (h : Performed s i s' r) (hs : EngineSound s)
    (hout : ∀ c ∈ usesCtx i, OutsideStores s c.toNat a) : s'.env.mem.read a = s.env.mem.read a := by
  by_cases hi : Squashes i
  · have hflushed : ∀ {c : BitVec 8} {s1 : State}, c.toNat < s.cfg.numContexts → (s.ctx c.toNat).attached = true →
        OutsideStores s c.toNat a → flushBody c.toNat s = .ok s1 → s1.env.mem.read a = s.env.mem.read a := by
      intro c s1 hc ha hout hflush
      have := hs.flushBody_outside hc ha hout
      rwa [hflush] at this
    have hevicted : ∀ {c : Nat} {s1 s2 : State}, evict c s1 = .ok s2 → s2.env.mem = s1.env.mem := by
      intro c s1 s2 hevict
      obtain ⟨_, _, _, henv, _⟩ := (evictedFrom_of_ok hevict).around
      rw [henv]
    cases h with
    | declined _ => rfl
    | read _ => rfl
    | @rolledBack c m slot gen s1 hc hlive hsquash =>
      have hmem := hs.squashMany_outside hc (live_attached hlive) (youngerCount_le _ slot.toNat) (hout _ rfl)
      rw [hsquash] at hmem
      rw [afterRollback_mem]
      exact hmem
    | flushed hc ha hflush => exact hflushed hc ha (hout _ rfl) hflush
    | transferred hc _ ha hflush hevict hadmit =>
      obtain ⟨_, _, _, _, hspec⟩ := admitTo_ok hadmit
      obtain ⟨_, _, _, henv, _⟩ := hspec.around
      rw [henv, hevicted hevict]
      exact hflushed hc ha (hout _ rfl) hflush
    | transferRejected hc _ ha hflush hevict _ =>
      rw [hevicted hevict]
      exact hflushed hc ha (hout _ rfl) hflush
    | _ => exact absurd hi id
  · rw [(h.memory hi).1]

theorem Raised.outside {i : Instr} {s s' : State} {d : Defect} {a : Nat} (h : Raised s i s' d) (hs : EngineSound s)
    (hout : ∀ c ∈ usesCtx i, OutsideStores s c.toNat a) : s'.env.mem.read a = s.env.mem.read a := by
  cases h with
  | notAttached _ _ _ _ => rfl
  | alreadyAttached _ _ => rfl
  | atOnce _ _ => rfl
  | @rollbackFailed c m slot gen s1 d hc hlive hsquash =>
    have hmem := hs.squashMany_outside hc (live_attached hlive) (youngerCount_le _ slot.toNat) (hout _ rfl)
    rwa [hsquash] at hmem
  | flushFailed hc ha hflush =>
    have hmem := hs.flushBody_outside hc ha (hout _ rfl)
    rwa [hflush] at hmem
  | transferFlushFailed hc ha hflush =>
    have hmem := hs.flushBody_outside hc ha (hout _ rfl)
    rwa [hflush] at hmem
  | transferEvictFailed hc ha hflush _ =>
    have hmem := hs.flushBody_outside hc ha (hout _ rfl)
    rwa [hflush] at hmem

/-- Settles O20: no other command writes memory, and a squash replays live stores alone. -/
theorem onlySquashedStoresWriteMemory : Obligations.OnlySquashedStoresWriteMemory := by
  refine ⟨fun i s t h hroll hflush htransfer => ?_, fun i s t a hengine h hout => ?_⟩
  · have hi : ¬ Squashes i := by
      cases i with
      | rollbackTo c m slot gen => exact absurd rfl (hroll c m slot gen)
      | flushContext c => exact absurd rfl (hflush c)
      | transferContext c k => exact absurd rfl (htransfer c k)
      | _ => exact id
    obtain ⟨hmem, htrace⟩ := exec_keeps_memory hi h
    exact ⟨fun a => by rw [hmem], htrace⟩
  · have hs := (engineOk_iff s).mp hengine
    cases hl : s.latch.set with
    | true => rw [exec_mem_of_latched hl h]
    | false =>
      obtain ⟨s', r, hp, rfl⟩ | ⟨s', d, hr, rfl⟩ := exec_cases hl h
      · exact hp.outside hs hout
      · exact hr.outside hs hout

end Sys2Proof.Machine

/-! PROOFS. ROLLBACK_TO, FLUSH_CONTEXT and TRANSFER_CONTEXT by the outcome of their squash (43_rollback.md R261, R263,
44_context.md R293), and the fault of a replay. -/

namespace Sys2Proof.Machine

open Sys2Proof.Safety

/-! ### The three commands by the outcome of their parts -/

section Exec

variable {s : State} {c : BitVec 8} (hl : s.latch.set = false) (hc : c.toNat < s.cfg.numContexts)

include hl hc

section Rollback

variable {m : Bool} {slot gen : Word} (hlive : s.live c.toNat .rob slot.toNat gen.toNat = true)

include hlive

theorem exec_rollbackTo_ok {t : State} (h : squashMany c.toNat (youngerCount (s.ctx c.toNat) slot.toNat) s = .ok t) :
    exec (.rollbackTo c m slot gen) s
      = .next ((afterRollback c.toNat slot.toNat m (youngerCount (s.ctx c.toNat) slot.toNat) t).answer
        (.ok [natWord (youngerCount (s.ctx c.toNat) slot.toNat),
          ((afterRollback c.toNat slot.toNat m (youngerCount (s.ctx c.toNat) slot.toNat) t).ctx c.toNat).fetchPc])) := by
  simp only [exec, execRollbackTo]
  rw [checkHandle_pass hc hlive, h]
  exact perform_done _ s _ _ hl

theorem exec_rollbackTo_error {t : State} {d : Defect}
    (h : squashMany c.toNat (youngerCount (s.ctx c.toNat) slot.toNat) s = .error (d, t)) :
    exec (.rollbackTo c m slot gen) s = .next (t.raiseFatal d (Instr.rollbackTo c m slot gen).header) := by
  simp only [exec, execRollbackTo]
  rw [checkHandle_pass hc hlive, h]
  exact perform_fatal _ s _ _ hl

end Rollback

variable (ha : (s.ctx c.toNat).attached = true)

include ha

theorem exec_flushContext_ok {t : State} (h : flushBody c.toNat s = .ok t) : exec (.flushContext c) s
    = .next (t.answer (.ok [natWord (s.ctx c.toNat).robRing.num, flushPc (s.ctx c.toNat)])) := by
  simp only [exec, execFlushContext]
  rw [checkCtx_pass c s _ hc, checkAttached_pass c s _ ha, h]
  exact perform_done _ s _ _ hl

theorem exec_flushContext_error {t : State} {d : Defect} (h : flushBody c.toNat s = .error (d, t)) :
    exec (.flushContext c) s = .next (t.raiseFatal d (Instr.flushContext c).header) := by
  simp only [exec, execFlushContext]
  rw [checkCtx_pass c s _ hc, checkAttached_pass c s _ ha, h]
  exact perform_fatal _ s _ _ hl

section Transfer

variable {k : BitVec 8} (hk : k.toNat < s.cfg.numCores)

include hk

theorem exec_transferContext_flushError {t : State} {d : Defect} (h : flushBody c.toNat s = .error (d, t)) :
    exec (.transferContext c k) s = .next (t.raiseFatal d (Instr.transferContext c k).header) := by
  simp only [exec, execTransferContext]
  rw [checkCtx_pass c s _ hc, checkCore_pass k s _ hk, checkAttached_pass c s _ ha, h]
  exact perform_fatal _ s _ _ hl

variable {s1 : State} (hflush : flushBody c.toNat s = .ok s1)

include hflush

theorem exec_transferContext_evictError {d : Defect} (h : evictDefect c.toNat s1 = some d) :
    exec (.transferContext c k) s = .next (s1.raiseFatal d (Instr.transferContext c k).header) := by
  simp only [exec, execTransferContext]
  rw [checkCtx_pass c s _ hc, checkCore_pass k s _ hk, checkAttached_pass c s _ ha, hflush]
  dsimp only [Ran.after]
  rw [evict_of_defect h]
  exact perform_fatal _ s _ _ hl

variable {s2 : State} (hevict : evict c.toNat s1 = .ok s2)

include hevict

theorem exec_transferContext_rejected {r : RejectReason} (h : admitTo c.toNat k.toNat s2 = .error r) :
    exec (.transferContext c k) s
      = .next (s2.answer (.reject r [natWord (s.ctx c.toNat).robRing.num, minusOne])) := by
  simp only [exec, execTransferContext]
  rw [checkCtx_pass c s _ hc, checkCore_pass k s _ hk, checkAttached_pass c s _ ha, hflush]
  dsimp only [Ran.after]
  rw [hevict]
  dsimp only
  rw [h]
  exact perform_done _ s _ _ hl

theorem exec_transferContext_ok {s3 : State} (h : admitTo c.toNat k.toNat s2 = .ok s3) :
    exec (.transferContext c k) s
      = .next (s3.answer (.ok [natWord (s.ctx c.toNat).robRing.num, natWord (s3.ctx c.toNat).slot])) := by
  simp only [exec, execTransferContext]
  rw [checkCtx_pass c s _ hc, checkCore_pass k s _ hk, checkAttached_pass c s _ ha, hflush]
  dsimp only [Ran.after]
  rw [hevict]
  dsimp only
  rw [h]
  exact perform_done _ s _ _ hl

end Transfer

end Exec

theorem flushBody_of_squashError {c : Nat} {s t : State} {d : Defect}
    (h : squashMany c (s.ctx c).robRing.num s = .error (d, t)) : flushBody c s = .error (d, t) := by
  unfold flushBody
  rw [h]

/-! ### The fault of a replay -/

/-- A defect raised after part of a squash. -/
theorem latchedLate_raiseFatal {c : Nat} {s t : State} (h : SquashFrame c s t) (d : Defect) (i : Instr) :
    LatchedLate s (t.raiseFatal d i.header) d i := by
  refine ⟨?_, rfl, h.cfg, h.port, h.now⟩
  rw [State.raiseFatal_latch, h.now]

/-- The defect point of a squash that stops at the replay of `l`. -/
theorem SquashStops.frame {c n m : Nat} {s t u : State} {l : Entry} (h : SquashStops c n s t m u l) : SquashFrame c s t := by
  rw [h.state]
  exact h.squashed.frame.trans (.replayWrite _ _ _)

theorem SquashStops.trace {c n m : Nat} {s t u : State} {l : Entry} (h : SquashStops c n s t m u l) :
    t.trace = s.trace ++ (undoneStores (s.ctx c) m).map replayEvent
      ++ [.memWrite l.memAddr l.memSize (bytesOf l.shadowMem l.memSize.toNat) true] := by
  rw [h.state, State.replayWrite_trace, h.squashed.undoes.trace, h.faults]

theorem SquashStops.mem {c n m a : Nat} {s t u : State} {l : Entry} (h : SquashStops c n s t m u l) (ha : ¬ l.covers a) :
    t.env.mem.read a = (replayed s.env.mem (undoneStores (s.ctx c) m)).read a := by
  rw [h.state, replayWrite_outside ha, h.squashed.undoes.mem]

/-- Settles O59: the squash stops at the faulting replay, and the command raises the defect there. -/
theorem replayFaultIsFatal : Obligations.ReplayFaultIsFatal := by
  intro s c j l hengine hl hc ha haccepts hfault x faults
  have hs := (engineOk_iff s).mp hengine
  have hstop : ∀ (i : Instr) {n : Nat}, n ≤ x.robRing.num →
      (∀ t, squashMany c.toNat n s = .error (.memReplayFault, t) →
        exec i s = .next (t.raiseFatal .memReplayFault i.header)) → faults i n := by
    intro i n hn hexec hj
    obtain ⟨t, m, u, herror, hstops, htake⟩ := hs.squashMany_faulted hc ha hn haccepts hfault hj
    refine ⟨_, hexec t herror, latchedLate_raiseFatal hstops.frame _ i, ?_, fun a hcovers => ?_, hstops.frame.insnGlobal,
      hstops.frame.insn⟩
    · exact hstops.trace.trans (by rw [htake])
    · exact (hstops.mem hcovers).trans (by rw [htake])
  refine ⟨fun m slot gen hlive => hstop _ (youngerCount_le _ _) fun t h => exec_rollbackTo_error hl hc hlive h,
    hstop _ (Nat.le_refl _) fun t h => exec_flushContext_error hl hc ha (flushBody_of_squashError h),
    fun k hk => hstop _ (Nat.le_refl _) fun t h =>
      exec_transferContext_flushError hl hc ha hk (flushBody_of_squashError h)⟩

end Sys2Proof.Machine

/-! PROOFS. ROLLBACK_TO and FLUSH_CONTEXT where the memory accepts their replays (43_rollback.md R261 to R263). -/

namespace Sys2Proof.Machine

open Sys2Proof.Safety

/-! ### The state after the squash, redirected and counted -/

/-- The end of a rollback or a flush of context `c`: nothing but the buffers and the fetch of the context, the counters and the
trace differ. -/
structure Redirected (c n : Nat) (s t : State) : Prop where
  ctx_ne : SameCtxsBut c s t
  core : ∀ k, t.core k = s.core k
  rename : (t.ctx c).rename = (s.ctx c).rename
  wreg : (t.ctx c).wreg = (s.ctx c).wreg
  attached : (t.ctx c).attached = (s.ctx c).attached
  ctxCore : (t.ctx c).core = (s.ctx c).core
  slot : (t.ctx c).slot = (s.ctx c).slot
  gen : ∀ b i, (t.ctx c).gen b i = (s.ctx c).gen b i
  env : t.env = { s.env with
    insnGlobal := s.env.insnGlobal + -(n : Int)
    insn := Table.put s.env.insn c (Table.get 0 s.env.insn c + -(n : Int)) }
  nextSeq : t.eng.nextSeq = s.eng.nextSeq
  cfg : t.cfg = s.cfg
  latch : t.latch = s.latch
  port : t.port = s.port
  now : t.now = s.now

theorem redirected_emitCountDec (c n : Nat) (s : State) : Redirected c n s (emitCountDec c n s) :=
  ⟨fun _ _ => rfl, fun _ => rfl, rfl, rfl, rfl, rfl, rfl, fun _ _ => rfl, rfl, rfl, rfl, rfl, rfl, rfl⟩

theorem redirected_updCtx {c n : Nat} {s t : State} {f : Context → Context}
    (hf : { f (s.ctx c) with
      robRing := (s.ctx c).robRing, lsqRing := (s.ctx c).lsqRing, ifqRing := (s.ctx c).ifqRing, icount := (s.ctx c).icount
      fetchPc := (s.ctx c).fetchPc, fetchStallUntil := (s.ctx c).fetchStallUntil } = s.ctx c)
    (h : Redirected c n (s.updCtx c f) t) : Redirected c n s t := by
  have hctx := State.updCtx_ctx_same s c f
  refine ⟨fun j hj => (h.ctx_ne j hj).trans (State.updCtx_ctx_ne s f hj), h.core, ?_, ?_, ?_, ?_, ?_, fun b i => ?_, h.env,
    h.nextSeq, h.cfg, h.latch, h.port, h.now⟩
  · rw [h.rename, hctx]
    exact (congrArg Context.rename hf :)
  · rw [h.wreg, hctx]
    exact (congrArg Context.wreg hf :)
  · rw [h.attached, hctx]
    exact (congrArg Context.attached hf :)
  · rw [h.ctxCore, hctx]
    exact (congrArg Context.core hf :)
  · rw [h.slot, hctx]
    exact (congrArg Context.slot hf :)
  · rw [h.gen, hctx]
    cases b
    · exact (congrArg (fun x : Context => x.gen .rob i) hf :)
    · exact (congrArg (fun x : Context => x.gen .lsq i) hf :)

theorem redirected_flushFinish (c n : Nat) (pc : Word) (s : State) : Redirected c n s (flushFinish c n pc s) :=
  redirected_updCtx (f := fun y => y.flushed pc) rfl (redirected_emitCountDec c n (s.updCtx c fun y => y.flushed pc))

theorem redirected_afterRollback (c i n : Nat) (m : Bool) (s : State) : Redirected c n s (afterRollback c i m n s) := by
  refine redirected_updCtx (f := rollbackUpdate c i m s) rfl ?_
  cases m <;> exact ⟨fun _ _ => rfl, fun _ => rfl, rfl, rfl, rfl, rfl, rfl, fun _ _ => rfl, rfl, rfl, rfl, rfl, rfl, rfl⟩

/-- Everything that the squash of the `n` youngest instructions undoes (43_rollback.md R260). -/
structure Undone (c n : Nat) (s t : State) : Prop where
  regs : RegsUndone s t c n
  wregs : WregsUndone s t c n
  queues : QueuesUndone s t c n
  memory : MemoryUndone s t c n
  attached : (t.ctx c).attached = (s.ctx c).attached
  ctxCore : (t.ctx c).core = (s.ctx c).core
  slot : (t.ctx c).slot = (s.ctx c).slot
  gen : ∀ b i, (t.ctx c).gen b i = (s.ctx c).gen b i
  ctx_ne : SameCtxsBut c s t
  core_ne : SameCoresBut (s.ctx c).core s t
  slotOf : ∀ k j, (t.core k).slotOf j = (s.core k).slotOf j
  nextSeq : t.eng.nextSeq = s.eng.nextSeq
  cfg : t.cfg = s.cfg
  latch : t.latch = s.latch
  port : t.port = s.port
  now : t.now = s.now

theorem Squashed.undone {c n : Nat} {s s1 t : State} (h : Squashed c n s s1) (h' : Redirected c n s1 t) : Undone c n s t := by
  have hreg : ∀ k b p, t.reg k b p = s1.reg k b p := fun k b p => by
    rw [State.reg, h'.core]
    rfl
  obtain ⟨hregs, hrename⟩ := h.regs
  obtain ⟨hiq, hwq⟩ := h.queues
  refine ⟨⟨fun k b p => (hreg k b p).trans (hregs k b p), fun a => ?_⟩, fun a => ?_,
    ⟨fun k => (congrArg Core.iqCount (h'.core k)).trans (hiq k), fun k q => (congrArg (Core.wq · q) (h'.core k)).trans (hwq k q)⟩,
    ⟨?_, ?_, fun j => ?_, ?_, ?_⟩, h'.attached.trans (congrArg Context.attached h.frame.ctx :), h'.ctxCore.trans h.frame.core,
    h'.slot.trans (congrArg Context.slot h.frame.ctx :), fun b i => (h'.gen b i).trans (squashFrame_gen h.frame b i),
    fun j hj => (h'.ctx_ne j hj).trans (h.frame.ctx_ne j hj), fun k hk => (h'.core k).trans (h.frame.core_ne k hk),
    fun k j => (congrArg (Core.slotOf · j) (h'.core k)).trans (h.frame.slotOf k j), h'.nextSeq.trans h.frame.nextSeq,
    h'.cfg.trans h.frame.cfg, h'.latch.trans h.frame.latch, h'.port.trans h.frame.port, h'.now.trans h.frame.now⟩
  · rw [Context.renameOf, h'.rename]
    exact hrename a
  · rw [Context.wregOf, h'.wreg]
    exact h.wregs a
  · rw [h'.env]
    exact h.undoes.mem
  · rw [h'.env, ← h.frame.insnGlobal]
    rfl
  · rw [h'.env, ← h.frame.insn, Table.get_put]
    split
    · subst_vars
      rfl
    · exact (Int.sub_zero _).symm
  · rw [h'.env]
    exact h.undoes.draws
  · rw [h'.env]
    exact h.undoes.drawn

/-! ### What is left of the buffers -/

section Left

variable {c n : Nat} {s t : State} (hsquashed : Squashed c n s t)

include hsquashed

theorem Squashed.robNum : (t.ctx c).robRing.num = (s.ctx c).robRing.num - n := by
  have hlen := congrArg List.length hsquashed.liveRob
  rw [List.length_take, liveEntries_length, liveEntries_length] at hlen
  simp only [Context.ring_rob] at hlen
  omega

theorem Squashed.lsqNum : (t.ctx c).lsqRing.num = (s.ctx c).lsqRing.num - squashedMems (s.ctx c) n := by
  have hlen := congrArg List.length hsquashed.liveLsq
  rw [List.length_take, liveEntries_length, liveEntries_length] at hlen
  simp only [Context.ring_lsq] at hlen
  omega

end Left

/-! ### ROLLBACK_TO -/

section Rollback

variable {c i : Nat} {s t : State} (h : EngineSound s) (hc : c < s.cfg.numContexts)
  (hi : i ∈ liveSlots (s.ctx c).robRing) (hsquashed : Squashed c (youngerCount (s.ctx c) i) s t)

include h hc hi

theorem pos_lt_of_live : (s.ctx c).robRing.pos i < (s.ctx c).robRing.num := by
  obtain ⟨j, hj, rfl⟩ := mem_liveSlots.mp hi
  rwa [Ring.pos_slot (h.ctx c hc).rings.1 hj]

theorem num_sub_youngerCount :
    (s.ctx c).robRing.num - youngerCount (s.ctx c) i = (s.ctx c).robRing.pos i + 1 := by
  have := pos_lt_of_live h hc hi
  rw [youngerCount]
  omega

theorem slot_pos_of_live : ((s.ctx c).robRing.head + (s.ctx c).robRing.pos i) % (s.ctx c).robRing.cap = i := by
  obtain ⟨j, hj, rfl⟩ := mem_liveSlots.mp hi
  rw [Ring.pos_slot (h.ctx c hc).rings.1 hj]

include hsquashed

theorem target_live : i ∈ liveSlots (t.ctx c).robRing := by
  rw [mem_liveSlots]
  have hhead : (t.ctx c).robRing.head = (s.ctx c).robRing.head :=
    (congrArg (fun x : Context => x.robRing.head) hsquashed.frame.ctx :)
  have hcap : (t.ctx c).robRing.cap = (s.ctx c).robRing.cap :=
    (congrArg (fun x : Context => x.robRing.cap) hsquashed.frame.ctx :)
  refine ⟨(s.ctx c).robRing.pos i, ?_, ?_⟩
  · rw [hsquashed.robNum, num_sub_youngerCount h hc hi]
    exact Nat.lt_succ_self _
  · rw [hhead, hcap]
    exact slot_pos_of_live h hc hi

/-- The target is the youngest entry left. -/
theorem rolledBack_robRing (ht : EngineSound t) : (t.ctx c).robRing = ⟨(s.ctx c).robRing.head,
    (i + 1) % (s.ctx c).robRing.cap, (s.ctx c).robRing.num - youngerCount (s.ctx c) i, (s.ctx c).robRing.cap⟩ := by
  have hhead : (t.ctx c).robRing.head = (s.ctx c).robRing.head :=
    (congrArg (fun x : Context => x.robRing.head) hsquashed.frame.ctx :)
  have hcap : (t.ctx c).robRing.cap = (s.ctx c).robRing.cap :=
    (congrArg (fun x : Context => x.robRing.cap) hsquashed.frame.ctx :)
  obtain ⟨_, _, htail⟩ := (ht.ctx c (hsquashed.frame.cfg ▸ hc)).rings.1
  have hnum := hsquashed.robNum
  rw [hnum, hhead, hcap, num_sub_youngerCount h hc hi, ← Nat.add_assoc, ← Nat.mod_add_mod, slot_pos_of_live h hc hi] at htail
  rw [← hnum, ← htail, ← hhead, ← hcap]

end Rollback

theorem afterRollback_trace (c i n : Nat) (m : Bool) (s : State) : (afterRollback c i m n s).trace = s.trace
    ++ (if m then [.rasRecover (template s.cfg (s.ctx c).core (s.ctx c).slot).predHandle ((s.ctx c).entry .rob i).stackRecoverIdx]
      else []) ++ [.insnCountDec c n] := by
  cases m
  · exact congrArg (· ++ [Event.insnCountDec c n]) (List.append_nil s.trace).symm
  · rfl

/-- Settles O41: the squash in closed form, then the redirection. -/
theorem rollbackSquashesTheYounger : Obligations.RollbackSquashesTheYounger := by
  intro s c m slot gen hengine hl hc hlive x e n haccepts
  have h := (engineOk_iff s).mp hengine
  obtain ⟨ha, hi⟩ := h.mem_liveSlots_of_live hc hlive
  obtain ⟨t, ht, hsquashed⟩ := h.squashMany_accepted hc ha (youngerCount_le _ slot.toNat) haccepts
  have hundone := hsquashed.undone (redirected_afterRollback c.toNat slot.toNat n m t)
  have hctx := afterRollback_ctx_same c.toNat slot.toNat n m t
  have hring := rolledBack_robRing h hc hi hsquashed (h.squashMany hc ha (youngerCount_le _ slot.toNat) ht)
  have hentry : (t.ctx c.toNat).entry .rob slot.toNat = e := hsquashed.entry .rob slot.toNat (target_live h hc hi hsquashed)
  have hslot : (t.ctx c.toNat).slot = x.slot := (congrArg Context.slot hsquashed.frame.ctx :)
  have hstall : (t.ctx c.toNat).fetchStallUntil = x.fetchStallUntil :=
    (congrArg Context.fetchStallUntil hsquashed.frame.ctx :)
  have hpc : ((afterRollback c.toNat slot.toNat m n t).ctx c.toNat).fetchPc = e.nextPc :=
    (congrArg Context.fetchPc hctx).trans (congrArg Entry.nextPc hentry)
  refine ⟨_, exec_rollbackTo_ok hl hc hlive ht, ?_, (congrArg Context.robRing hctx).trans hring, ?_,
    (congrArg (liveEntries · .rob) hctx).trans hsquashed.liveRob,
    (congrArg (fun y : Context => y.lsqRing.num) hctx).trans hsquashed.lsqNum, (congrArg (liveEntries · .lsq) hctx).trans hsquashed.liveLsq, hundone.regs, hundone.wregs, hundone.queues, hundone.memory,
    (congrArg Context.icount hctx).trans hsquashed.icount, ?_, hpc, ?_, ?_, hundone.attached.trans ha, hundone.ctxCore,
    hundone.slot, hundone.gen, hundone.ctx_ne, hundone.core_ne, hundone.slotOf _, hundone.nextSeq, hundone.cfg, hundone.latch,
    hundone.port, hundone.now⟩
  · exact congrArg (fun w => some (Response.ok [natWord n, w])) hpc
  · have hnum : x.robRing.num - n = x.robRing.pos slot.toNat + 1 := num_sub_youngerCount h hc hi
    rw [State.answer_ctx]
    exact (congrArg (fun y : Context => 1 ≤ y.robRing.num) hctx).mpr (by rw [hsquashed.robNum]; exact hnum ▸ Nat.le_add_left 1 _)
  · have hifq : (t.ctx c.toNat).ifqRing = x.ifqRing := (congrArg Context.ifqRing hsquashed.frame.ctx :)
    exact (congrArg Context.ifqRing hctx).trans (congrArg Ring.drain hifq)
  · refine (congrArg Context.fetchStallUntil hctx).trans ?_
    simp only [hsquashed.frame.cfg, hsquashed.frame.now, hstall, Bool.or_eq_true]
    rfl
  · refine (afterRollback_trace c.toNat slot.toNat n m t).trans ?_
    rw [hsquashed.undoes.trace, hsquashed.frame.cfg, hsquashed.frame.core, hslot, hentry]
    rfl

/-! ### FLUSH_CONTEXT -/

/-- Once the ROB is empty the LSQ is. -/
theorem EngineSound.lsqNum_of_empty {s : State} {c : Nat} (h : EngineSound s) (hc : c < s.cfg.numContexts)
    (hrob : (s.ctx c).robRing.num = 0) : (s.ctx c).lsqRing.num = 0 := by
  have hseqs := (h.ctx c hc).bufs.seqs
  rw [liveEntries_of_num_eq_zero (b := .rob) hrob] at hseqs
  have hlen := congrArg List.length hseqs
  rw [List.length_map, List.length_map, liveEntries_length] at hlen
  exact hlen.symm

/-- A flush that the memory accepts. -/
theorem EngineSound.flushBody_accepted {s : State} {c : Nat} (h : EngineSound s) (hc : c < s.cfg.numContexts)
    (ha : (s.ctx c).attached = true) (haccepts : Accepts s (undoneStores (s.ctx c) (s.ctx c).robRing.num).length) :
    ∃ s1, Squashed c (s.ctx c).robRing.num s s1 ∧ (s1.ctx c).robRing.num = 0 ∧ (s1.ctx c).lsqRing.num = 0 ∧ EngineSound s1
      ∧ flushBody c s = .ok (Machine.flushFinish c (s.ctx c).robRing.num (flushPc (s.ctx c)) s1) := by
  obtain ⟨s1, hs1, hsquashed⟩ := h.squashMany_accepted hc ha (Nat.le_refl _) haccepts
  have hsound := h.squashMany hc ha (Nat.le_refl _) hs1
  have hrob : (s1.ctx c).robRing.num = 0 := by rw [hsquashed.robNum, Nat.sub_self]
  have hlsq := hsound.lsqNum_of_empty (hsquashed.frame.cfg ▸ hc) hrob
  refine ⟨s1, hsquashed, hrob, hlsq, hsound, ?_⟩
  unfold flushBody
  rw [hs1]
  exact if_pos hlsq

theorem flushPc_eq (x : Context) : (if x.robRing.num ≠ 0 then (x.entry .rob x.robRing.head).pc
    else if x.ifqRing.num ≠ 0 then (Table.get FetchRecord.blank x.ifq x.ifqRing.head).pc else x.fetchPc) = flushPc x := by
  simp only [flushPc, Nat.pos_iff_ne_zero]

/-- Settles O42: the squash in closed form, then the end of the flush. -/
theorem flushSquashesEverything : Obligations.FlushSquashesEverything := by
  intro s c hengine hl hc ha x n pc haccepts
  have h := (engineOk_iff s).mp hengine
  obtain ⟨s1, hsquashed, _, _, _, hflush⟩ := h.flushBody_accepted hc ha haccepts
  have hundone := hsquashed.undone (redirected_flushFinish c.toNat n (flushPc x) s1)
  have hctx := flushFinish_ctx_same c.toNat n (flushPc x) s1
  have hpc : pc = flushPc x := flushPc_eq x
  have hcaps : (s1.ctx c.toNat).robRing.cap = x.robRing.cap ∧ (s1.ctx c.toNat).lsqRing.cap = x.lsqRing.cap
      ∧ (s1.ctx c.toNat).ifqRing.cap = x.ifqRing.cap :=
    ⟨(congrArg (fun y : Context => y.robRing.cap) hsquashed.frame.ctx :),
      (congrArg (fun y : Context => y.lsqRing.cap) hsquashed.frame.ctx :),
      (congrArg (fun y : Context => y.ifqRing.cap) hsquashed.frame.ctx :)⟩
  obtain ⟨hrobCap, hlsqCap, hifqCap⟩ := hcaps
  refine ⟨_, exec_flushContext_ok hl hc ha hflush, ?_, ?_, ?_, ?_, (congrArg Context.icount hctx :), ?_, ?_, hundone.regs,
    hundone.wregs, hundone.queues, hundone.memory, ?_, hundone.attached.trans ha, hundone.ctxCore,
    hundone.slot, hundone.gen, hundone.ctx_ne, hundone.core_ne, hundone.slotOf _, hundone.nextSeq, hundone.cfg, hundone.latch,
    hundone.port, hundone.now⟩
  · rw [hpc]
    rfl
  · exact (congrArg Context.robRing hctx).trans (congrArg (Ring.mk 0 0 0) hrobCap)
  · exact (congrArg Context.lsqRing hctx).trans (congrArg (Ring.mk 0 0 0) hlsqCap)
  · exact (congrArg Context.ifqRing hctx).trans (congrArg (Ring.mk 0 0 0) hifqCap)
  · exact (congrArg Context.fetchPc hctx).trans hpc.symm
  · exact (congrArg Context.fetchStallUntil hctx).trans (congrArg Context.fetchStallUntil hsquashed.frame.ctx :)
  · exact congrArg (· ++ [Event.insnCountDec c.toNat n]) hsquashed.undoes.trace

end Sys2Proof.Machine

/-! PROOFS. Eviction where the invariants hold (42_commit.md R232, 44_context.md R292 to R294): EJECT_CONTEXT of a quiescent
context, and the defects of the eviction inside TRANSFER_CONTEXT. -/

namespace Sys2Proof.Machine

open Sys2Proof.Safety

/-! ### The rename targets of a quiescent context -/

theorem eq_of_length_filter_le_one {n a a' : Nat} {f : Nat → Bool} (h : ((List.range n).filter f).length ≤ 1) (ha : a < n)
    (ha' : a' < n) (hf : f a = true) (hf' : f a' = true) : a = a' := by
  have hmem : a ∈ (List.range n).filter f := List.mem_filter.mpr ⟨List.mem_range.mpr ha, hf⟩
  have hmem' : a' ∈ (List.range n).filter f := List.mem_filter.mpr ⟨List.mem_range.mpr ha', hf'⟩
  cases hl : (List.range n).filter f with
  | nil =>
    rw [hl] at hmem
    cases hmem
  | cons b l =>
    rw [hl, List.length_cons] at h
    obtain rfl : l = [] := List.eq_nil_of_length_eq_zero (by omega)
    rw [hl] at hmem hmem'
    exact (List.mem_singleton.mp hmem).trans (List.mem_singleton.mp hmem').symm

section Quiescent

variable {s : State} {c : Nat} (h : EngineSound s) (hc : c < s.cfg.numContexts) (ha : (s.ctx c).attached = true)
  (hrob : (s.ctx c).robRing.num = 0)

include h hc ha hrob

theorem EngineSound.target_architected {a : Nat} (ha64 : a < 64) :
    (s.reg (s.ctx c).core (bankOf a) ((s.ctx c).renameOf a)).state = .architected :=
  h.architected_of_cmap hc ha ha64 (cmap_of_empty hrob a)

/-- Two architected registers of a bank share no rename target. -/
theorem EngineSound.renameOf_inj {a a' : Nat} (ha64 : a < 64) (ha64' : a' < 64) (hb : bankOf a = bankOf a')
    (hr : (s.ctx c).renameOf a = (s.ctx c).renameOf a') : a = a' := by
  have hle := (h.commits_le hc ha (b := bankOf a) (h.renameOf_lt hc ha ha64)).trans (RegState.architects_le _)
  rw [commits_of_empty hrob] at hle
  exact eq_of_length_filter_le_one hle ha64 ha64' (by simp) (by simp [hb, hr])

/-- The rename targets can be returned exactly if they are ready. -/
theorem EngineSound.returnable_iff : (∀ a < 64, Returnable s c a) ↔ TimestampsPast s c := by
  constructor
  · intro hret a ha64 p hp
    obtain rfl := Option.some.inj ((cmap_of_empty hrob a).symm.trans hp)
    exact (hret a ha64).2
  · exact fun hpast a ha64 => ⟨h.target_architected hc ha hrob ha64, hpast a ha64 _ (cmap_of_empty hrob a)⟩

/-- Where a rename target is not ready that is the defect. -/
theorem EngineSound.evictDefect_pending (hlate : ¬ TimestampsPast s c) :
    evictDefect c s = some .ejectPendingTimestamp := by
  have hicount := icount_of_empty h hc hrob
  have hlsq := h.lsqNum_of_empty hc hrob
  cases hd : evictDefect c s with
  | none =>
    obtain ⟨_, _, _, hret⟩ := (evictDefect_none c s).mp hd
    exact absurd ((h.returnable_iff hc ha hrob).mp hret) hlate
  | some d =>
    rw [evictDefect, if_neg (by simp [hrob, hicount]), if_neg (by simp [hlsq])] at hd
    obtain ⟨a, hmem, hdefect⟩ := List.exists_of_findSome?_eq_some hd
    rw [returnDefect, if_neg (not_not_intro (h.target_architected hc ha hrob (List.mem_range.mp hmem)))] at hdefect
    split at hdefect
    · exact hdefect.symm
    · cases hdefect

theorem EngineSound.evict_succeeds (hpast : TimestampsPast s c) : ∃ t, Machine.evict c s = .ok t :=
  Machine.evict_succeeds hrob (icount_of_empty h hc hrob) (h.lsqNum_of_empty hc hrob)
    ((h.returnable_iff hc ha hrob).mpr hpast)

end Quiescent

/-- Settles O49: the invariants of a context with an empty ROB, then the checks of the eviction. -/
theorem quiescentContextEjects : Obligations.QuiescentContextEjects := by
  intro s c hengine hl hc ha hrob x
  have h := (engineOk_iff s).mp hengine
  refine ⟨fun a ha64 => h.target_architected hc ha hrob ha64,
    fun a ha64 a' ha64' hb hr => h.renameOf_inj hc ha hrob ha64 ha64' hb hr, fun hpast => ?_⟩
  obtain ⟨t, hevict⟩ := h.evict_succeeds hc ha hrob hpast
  refine ⟨_, exec_ejectContext_ok hl hc ha hevict, rfl, ?_⟩
  rw [State.answer_ctx, (evictedFrom_of_ok hevict).ctx]
  rfl

/-! ### The flush inside a transfer -/

/-- `t` is `s` with context `c` flushed. -/
structure FlushedFrom (c : Nat) (s t : State) : Prop where
  undone : Undone c (s.ctx c).robRing.num s t
  sound : EngineSound t
  ctx : ∃ s1, Squashed c (s.ctx c).robRing.num s s1 ∧ t.ctx c = (s1.ctx c).flushed (flushPc (s.ctx c))
  trace : t.trace = s.trace ++ (undoneStores (s.ctx c) (s.ctx c).robRing.num).map replayEvent
    ++ [.insnCountDec c (s.ctx c).robRing.num]
  robNum : (t.ctx c).robRing.num = 0
  cmap : ∀ a < 64, cmap (t.ctx c) a = cmap (s.ctx c) a
  reg : ∀ k b p, t.reg k b p = s.reg k b p ∨ t.reg k b p = { s.reg k b p with state := .free }

section Flush

variable {s t : State} {c : Nat} (h : EngineSound s) (hc : c < s.cfg.numContexts) (ha : (s.ctx c).attached = true)

theorem cmap_flushed {x : Context} {pc : Word} (hrob : x.robRing.num = 0) (a : Nat) : cmap (x.flushed pc) a = cmap x a := by
  rw [cmap_of_empty hrob, cmap_of_empty (x := x.flushed pc) rfl]
  rfl

include h hc ha

theorem EngineSound.squashed_of_ok {n : Nat} (hn : n ≤ (s.ctx c).robRing.num) (hsquash : Machine.squashMany c n s = .ok t) :
    Squashed c n s t := by
  obtain ⟨t', ht, hsquashed⟩ | ⟨_, _, _, _, herror, _⟩ := h.squashMany_total hc ha hn
  · cases hsquash.symm.trans ht
    exact hsquashed
  · cases hsquash.symm.trans herror

theorem EngineSound.flushedFrom (hflush : flushBody c s = .ok t) : FlushedFrom c s t := by
  have hsound := h.flush hc ha hflush
  obtain ⟨s1, hs1, _, rfl⟩ := flushBody_ok c s t hflush
  have hsquashed := h.squashed_of_ok hc ha (Nat.le_refl _) hs1
  have hctx := flushFinish_ctx_same c (s.ctx c).robRing.num (flushPc (s.ctx c)) s1
  have hrob : (s1.ctx c).robRing.num = 0 := by rw [hsquashed.robNum, Nat.sub_self]
  refine ⟨hsquashed.undone (redirected_flushFinish c _ _ s1), hsound, ⟨s1, hsquashed, hctx⟩,
    congrArg (· ++ [Event.insnCountDec c (s.ctx c).robRing.num]) hsquashed.undoes.trace, ?_, fun a ha64 => ?_, fun k b p => ?_⟩
  · rw [hctx]
    rfl
  · rw [hctx, cmap_flushed hrob, hsquashed.cmap a ha64]
  · rw [flushFinish_reg]
    exact (hsquashed.frame.reg k b p).imp_right And.right

theorem EngineSound.flush_accepted (haccepts : Accepts s (undoneStores (s.ctx c) (s.ctx c).robRing.num).length) :
    ∃ t, flushBody c s = .ok t ∧ FlushedFrom c s t := by
  obtain ⟨s1, _, _, _, _, hflush⟩ := h.flushBody_accepted hc ha haccepts
  exact ⟨_, hflush, h.flushedFrom hc ha hflush⟩

/-- Where the invariants hold a flush fails by a faulting replay alone. -/
theorem EngineSound.flushBody_memReplayFault {d : Defect} (hflush : flushBody c s = .error (d, t)) : d = .memReplayFault := by
  obtain ⟨s1, hs1, hsquashed⟩ | ⟨_, _, _, _, herror, _⟩ := h.squashMany_total hc ha (Nat.le_refl (s.ctx c).robRing.num)
  · have hrob : (s1.ctx c).robRing.num = 0 := by rw [hsquashed.robNum, Nat.sub_self]
    have hlsq := (h.squashMany hc ha (Nat.le_refl _) hs1).lsqNum_of_empty (hsquashed.frame.cfg ▸ hc) hrob
    obtain hsquash | ⟨_, hsquash, hne⟩ := flushBody_error hflush
    · cases hs1.symm.trans hsquash
    · cases hs1.symm.trans hsquash
      exact absurd hlsq hne
  · cases (flushBody_of_squashError herror).symm.trans hflush
    rfl

end Flush

/-- The committed registers are ready after a flush exactly if they were before it. -/
theorem FlushedFrom.timestampsPast_iff {s t : State} {c : Nat} (h : FlushedFrom c s t) :
    TimestampsPast t c ↔ TimestampsPast s c := by
  have hreg : ∀ k b p, (t.reg k b p).readyCycle = (s.reg k b p).readyCycle
      ∧ (t.reg k b p).specReadyCycle = (s.reg k b p).specReadyCycle := fun k b p => by
    obtain heq | heq := h.reg k b p <;> rw [heq] <;> exact ⟨rfl, rfl⟩
  refine forall₂_congr fun a ha64 => ?_
  rw [h.cmap a ha64, h.undone.ctxCore, h.undone.now]
  exact forall₂_congr fun p _ => by rw [(hreg _ _ p).1, (hreg _ _ p).2]

/-! ### The defects of the eviction inside TRANSFER_CONTEXT -/

/-- The state in which a transfer raises a defect of its eviction. -/
theorem FlushedFrom.raised {s t : State} {c : Nat} (h : FlushedFrom c s t) (d : Defect) (i : Instr) :
    LatchedLate s (t.raiseFatal d i.header) d i := by
  refine ⟨?_, rfl, h.undone.cfg, h.undone.port, h.undone.now⟩
  rw [State.raiseFatal_latch, h.undone.now]

/-- A flush of an empty context. -/
theorem flushBody_of_empty {s : State} {c : Nat} (hrob : (s.ctx c).robRing.num = 0) (hlsq : (s.ctx c).lsqRing.num = 0) :
    flushBody c s = .ok (flushFinish c 0 (flushPc (s.ctx c)) s) := by
  unfold flushBody
  rw [hrob]
  exact if_pos hlsq

theorem evictDefect_flushed {s : State} {c n : Nat} {pc : Word} {d : Defect} (h : evictDefect c (flushFinish c n pc s) = some d) :
    d ≠ .ejectNotQuiescent := by
  rintro rfl
  have hctx := flushFinish_ctx_same c n pc s
  have hrob : ((flushFinish c n pc s).ctx c).robRing.num = 0 := by rw [hctx]; rfl
  have hicount : ((flushFinish c n pc s).ctx c).icount = 0 := by rw [hctx]; rfl
  have hlsq : ((flushFinish c n pc s).ctx c).lsqRing.num = 0 := by rw [hctx]; rfl
  rw [evictDefect, if_neg (by simp [hrob, hicount]), if_neg (by simp [hlsq])] at h
  obtain ⟨a, _, hdefect⟩ := List.exists_of_findSome?_eq_some h
  rw [returnDefect] at hdefect
  split at hdefect
  · cases hdefect
  · split at hdefect <;> cases hdefect

/-- What a transfer that raises a defect has raised. -/
theorem exec_transferContext_fatal {s t : State} {c k : BitVec 8} {d : Defect} (hl : s.latch.set = false)
    (hexec : exec (.transferContext c k) s = .next t) (hd : t.response = some (.fatal d.code)) :
    ∃ s', Raised s (.transferContext c k) s' d := by
  obtain ⟨s', r, hp, rfl⟩ | ⟨s', d', hr, rfl⟩ := exec_cases hl hexec
  · exact absurd (congrArg Response.status (Option.some.inj hd)) hp.answers.not_fatal
  · obtain rfl : d' = d := Defect.code_injective (congrArg Response.detail (Option.some.inj hd))
    exact ⟨s', hr⟩

theorem Raised.transfer {s s' : State} {c k : BitVec 8} {d : Defect} (h : Raised s (.transferContext c k) s' d)
    (hc : c.toNat < s.cfg.numContexts) : d ≠ .ejectNotQuiescent
      ∧ (EngineSound s → d = .notAttached ∨ d = .memReplayFault ∨ d = .ejectPendingTimestamp ∧ ¬ TimestampsPast s c.toNat) := by
  cases h with
  | notAttached _ _ _ _ => exact ⟨by decide, fun _ => .inl rfl⟩
  | atOnce _ hi => exact absurd rfl (hi c k)
  | transferFlushFailed _ ha hflush =>
    refine ⟨?_, fun h => .inr (.inl (h.flushBody_memReplayFault hc ha hflush))⟩
    rintro rfl
    exact flushBody_defect hflush
  | transferEvictFailed _ ha hflush hevict =>
    refine ⟨?_, fun h => .inr (.inr ?_)⟩
    · obtain ⟨s1, _, _, rfl⟩ := flushBody_ok _ s _ hflush
      exact evictDefect_flushed hevict
    · have hfrom := h.flushedFrom hc ha hflush
      have hc' := hfrom.undone.cfg ▸ hc
      have ha' := hfrom.undone.attached.trans ha
      have hlate : ¬ TimestampsPast s c.toNat := fun hpast => by
        obtain ⟨t, ht⟩ := hfrom.sound.evict_succeeds hc' ha' hfrom.robNum (hfrom.timestampsPast_iff.mpr hpast)
        cases (evict_of_defect hevict).symm.trans ht
      refine ⟨Option.some.inj (hevict.symm.trans ?_), hlate⟩
      exact hfrom.sound.evictDefect_pending hc' ha' hfrom.robNum (hfrom.timestampsPast_iff.not.mpr hlate)

/-- Settles O60: the flush, then the first check of the eviction that fails. -/
theorem transferEvictionDefects : Obligations.TransferEvictionDefects := by
  intro s c k hl hc hk x n r passes raises
  refine ⟨fun hengine ha hlate haccepts => ?_, fun ha hn hlsq a ha64 hbefore => ?_, fun t hexec => ⟨fun hfatal => ?_,
    fun hengine d hd => ?_⟩⟩
  · have h := (engineOk_iff s).mp hengine
    obtain ⟨t, hflush, hfrom⟩ := h.flush_accepted hc ha haccepts
    have hdefect := hfrom.sound.evictDefect_pending (hfrom.undone.cfg ▸ hc) (hfrom.undone.attached.trans ha) hfrom.robNum
      (hfrom.timestampsPast_iff.not.mpr hlate)
    obtain ⟨hmem, hglobal, hinsn, _⟩ := hfrom.undone.memory
    exact ⟨_, exec_transferContext_evictError hl hc ha hk hflush hdefect, hfrom.raised _ _,
      hfrom.trace.trans (List.append_assoc ..), hmem, hglobal, hinsn⟩
  · have hflush := flushBody_of_empty hn hlsq
    have hundone := (Squashed.refl c.toNat s).undone (redirected_flushFinish c.toNat 0 (flushPc x) s)
    have hctx := flushFinish_ctx_same c.toNat 0 (flushPc x) s
    have hret : ∀ j, passes j → Returnable (flushFinish c.toNat 0 (flushPc x) s) c.toNat j := fun j hj => by
      rw [Returnable, hctx]
      exact hj
    have hraises : ∀ d, evictDefect c.toNat (flushFinish c.toNat 0 (flushPc x) s) = some d →
        raises d [.insnCountDec c.toNat 0] := fun d hd => by
      obtain ⟨hmem, hglobal, hinsn, _⟩ := hundone.memory
      refine ⟨_, exec_transferContext_evictError hl hc ha hk hflush hd, ⟨rfl, rfl, rfl, rfl, rfl⟩, rfl, ?_, ?_, fun j => ?_⟩
      · rw [hn]
        exact hmem
      · rw [hn]
        exact hglobal
      · rw [hn]
        exact hinsn j
    have hfirst := fun {d} => evictDefect_first (s := flushFinish c.toNat 0 (flushPc x) s) (c := c.toNat) (d := d)
      (by rw [hctx]; rfl) (by rw [hctx]; rfl) (by rw [hctx]; rfl) ha64 fun j hj => hret j (hbefore j hj)
    refine ⟨fun hstate => hraises _ (hfirst (returnDefect_regState ?_)),
      fun harch hlate => hraises _ (hfirst (returnDefect_pending ?_ ?_))⟩ <;> rw [hctx]
    · exact hstate
    · exact harch
    · exact hlate
  · obtain ⟨s', hr⟩ := exec_transferContext_fatal hl hexec hfatal
    exact (hr.transfer hc).1 rfl
  · obtain ⟨s', hr⟩ := exec_transferContext_fatal hl hexec hd
    exact (hr.transfer hc).2 ((engineOk_iff s).mp hengine)

end Sys2Proof.Machine

/-! PROOFS. TRANSFER_CONTEXT (44_context.md R293): the context flushed and evicted, then admitted or left detached. -/

namespace Sys2Proof.Machine

open Sys2Proof.Safety

/-! ### Flushed and evicted -/

theorem squashed_all (x : Context) : squashed x x.robRing.num = liveEntries x .rob := by
  rw [squashed, Nat.sub_self, List.drop_zero]

/-- Context `c` has been flushed and evicted: what it held is given up, and the rest is as before. -/
structure GivenUp (c : Nat) (s t : State) : Prop where
  sound : EngineSound t
  reg : ∀ k b p, t.reg k b p = regGivenUp s c k b p
  slotOf : ∀ k n, (t.core k).slotOf n
    = if k = (s.ctx c).core ∧ n = (s.ctx c).slot then none else (s.core k).slotOf n
  attached : (t.ctx c).attached = false
  icount : (t.ctx c).icount = 0
  wregs : WregsUndone s t c (s.ctx c).robRing.num
  queues : QueuesUndone s t c (s.ctx c).robRing.num
  memory : MemoryUndone s t c (s.ctx c).robRing.num
  fetchPc : (t.ctx c).fetchPc = flushPc (s.ctx c)
  fetchStallUntil : (t.ctx c).fetchStallUntil = (s.ctx c).fetchStallUntil
  gen : ∀ b i, (t.ctx c).gen b i = (s.ctx c).gen b i
  trace : t.trace = s.trace ++ (undoneStores (s.ctx c) (s.ctx c).robRing.num).map replayEvent
    ++ [.insnCountDec c (s.ctx c).robRing.num]
  ctx_ne : SameCtxsBut c s t
  core_ne : SameCoresBut (s.ctx c).core s t
  nextSeq : t.eng.nextSeq = s.eng.nextSeq
  cfg : t.cfg = s.cfg
  latch : t.latch = s.latch
  port : t.port = s.port
  now : t.now = s.now

section GiveUp

variable {c : Nat} {s t u : State}

/-- The registers freed by flush and eviction are those the context held. -/
theorem FlushedFrom.regGivenUp (h : FlushedFrom c s t) (hevict : EvictedFrom c t u) (k : Nat) (b : Bank) (p : Nat) :
    u.reg k b p = Safety.regGivenUp s c k b p := by
  have htargets : targets (t.ctx c) (List.range 64) b p
      = (List.range 64).any (fun a => decide (bankOf a = b) && decide (Safety.cmap (s.ctx c) a = some p)) := by
    rw [Bool.eq_iff_iff, targets, List.any_eq_true, List.any_eq_true]
    refine exists_congr fun a => and_congr_right fun ha => ?_
    rw [← h.cmap a (List.mem_range.mp ha), cmap_of_empty h.robNum]
    simp only [Option.some.injEq]
  rw [hevict.reg, htargets, h.undone.ctxCore, h.undone.regs.1, squashed_all, Safety.regGivenUp, holds]
  by_cases hk : k = (s.ctx c).core
  · simp only [hk, true_and]
    generalize (liveEntries (s.ctx c) .rob).any _ = owned
    generalize (List.range 64).any _ = committed
    cases owned <;> cases committed <;> rfl
  · simp only [hk, false_and, if_false]

theorem FlushedFrom.givenUp (h : FlushedFrom c s t) (hsound : EngineSound u) (hevict : EvictedFrom c t u) : GivenUp c s u := by
  obtain ⟨s1, hsquashed, hflushed⟩ := h.ctx
  obtain ⟨hcfg, hlatch, htrace, henv, hport, hnow⟩ := hevict.around
  obtain ⟨hiq, hwq⟩ := h.undone.queues
  have hctx := hevict.ctx
  rw [hflushed] at hctx
  have hwreg : ∀ a, (u.ctx c).wregOf a = (t.ctx c).wregOf a := fun a => by
    rw [hctx, hflushed]
    rfl
  refine ⟨hsound, h.regGivenUp hevict, fun k n => ?_, by rw [hctx]; rfl, by rw [hctx]; rfl,
    fun a => (hwreg a).trans (h.undone.wregs a), ⟨fun k => (hevict.iqCount k).trans (hiq k),
      fun k q => (hevict.wq k q).trans (hwq k q)⟩, ?_, by rw [hctx]; rfl, ?_, fun b i => ?_, htrace.trans h.trace,
    fun j hj => (hevict.ctx_ne j hj).trans (h.undone.ctx_ne j hj), fun k hk => ?_, hevict.nextSeq.trans h.undone.nextSeq,
    hcfg.trans h.undone.cfg, hlatch.trans h.undone.latch, hport.trans h.undone.port, hnow.trans h.undone.now⟩
  · rw [hevict.slotOf, h.undone.ctxCore, h.undone.slot, h.undone.slotOf]
  · rw [MemoryUndone, henv]
    exact h.undone.memory
  · rw [hctx]
    exact (congrArg Context.fetchStallUntil hsquashed.frame.ctx :)
  · refine Eq.trans ?_ (h.undone.gen b i)
    rw [hctx, hflushed]
    cases b <;> rfl
  · exact (hevict.core_ne k (h.undone.ctxCore ▸ hk)).trans (h.undone.core_ne k hk)

end GiveUp

theorem GivenUp.freeList {c : Nat} {s t : State} (h : GivenUp c s t) (k : Nat) (b : Bank) :
    freeList t k b = freeGivenUp s c k b := by
  simp only [Safety.freeList, freeGivenUp, State.isFree, h.cfg, h.reg]

theorem GivenUp.empty_iff {c : Nat} {s t : State} (h : GivenUp c s t) (k n : Nat) :
    (t.core k).slotOf n = none ↔ emptyGivenUp s c k n := by
  rw [h.slotOf, emptyGivenUp]
  split
  · simp [*]
  · simp [*]

/-! ### The two parts succeed -/

/-- Where the committed registers are ready and the memory accepts the replays, flush and eviction succeed. -/
theorem EngineSound.flush_evict_succeed {c : Nat} {s : State} (h : EngineSound s) (hc : c < s.cfg.numContexts)
    (ha : (s.ctx c).attached = true) (hpast : TimestampsPast s c)
    (haccepts : Accepts s (undoneStores (s.ctx c) (s.ctx c).robRing.num).length) :
    ∃ s1 s2, flushBody c s = .ok s1 ∧ Machine.evict c s1 = .ok s2 ∧ GivenUp c s s2 := by
  obtain ⟨s1, hflush, hfrom⟩ := h.flush_accepted hc ha haccepts
  have hc' := hfrom.undone.cfg ▸ hc
  have ha' := hfrom.undone.attached.trans ha
  obtain ⟨s2, hevict⟩ := hfrom.sound.evict_succeeds hc' ha' hfrom.robNum (hfrom.timestampsPast_iff.mpr hpast)
  exact ⟨s1, s2, hflush, hevict, hfrom.givenUp (hfrom.sound.evict hc' ha' hevict) (evictedFrom_of_ok hevict)⟩

/-! ### The context's own core has room -/

/-- The committed mappings of a bank are 32 registers. -/
theorem EngineSound.cmap_inj {c a a' p : Nat} {s : State} (h : EngineSound s) (hc : c < s.cfg.numContexts)
    (ha : (s.ctx c).attached = true) (ha64 : a < 64) (ha64' : a' < 64) (hb : bankOf a = bankOf a')
    (hp : cmap (s.ctx c) a = some p) (hp' : cmap (s.ctx c) a' = some p) : a = a' := by
  have hlt := ((h.ctx c hc).bufs.chains ha a ha64).cmap_lt ((cmap_eq _ _).symm.trans hp)
  have hle := (h.commits_le hc ha (b := bankOf a) hlt).trans (RegState.architects_le _)
  exact eq_of_length_filter_le_one hle ha64 ha64' (by simp [hp]) (by simp [hb, hp'])

theorem EngineSound.exists_cmap {c a : Nat} {s : State} (h : EngineSound s) (hc : c < s.cfg.numContexts)
    (ha : (s.ctx c).attached = true) (ha64 : a < 64) : ∃ p, cmap (s.ctx c) a = some p := by
  have hchain := (h.ctx c hc).bufs.chains ha a ha64
  rw [cmap_eq]
  cases hw : writersOf (liveEntries (s.ctx c) .rob) a with
  | nil => exact ⟨_, rfl⟩
  | cons e l =>
    obtain ⟨hmem, _, hsome⟩ := mem_writersOf.mp (hw ▸ List.mem_cons_self : e ∈ writersOf (liveEntries (s.ctx c) .rob) a)
    obtain ⟨p, hp⟩ := Option.isSome_iff_exists.mp hsome
    exact robEntryOk_exists_old ((h.ctx c hc).bufs.rob e hmem) hp

/-- Architected register `i` of a bank. -/
def bankReg (b : Bank) (i : Nat) : Nat :=
  match b with
  | .int => i
  | .fp => 32 + i

theorem bankReg_spec (b : Bank) {i : Nat} (hi : i < 32) : bankReg b i < 64 ∧ bankOf (bankReg b i) = b := by
  cases b
  · exact ⟨show i < 64 by omega, bankOf_of_lt hi⟩
  · exact ⟨show 32 + i < 64 by omega, bankOf_of_le (Nat.le_add_right 32 i)⟩

theorem bankReg_inj {b : Bank} {i j : Nat} (h : bankReg b i = bankReg b j) : i = j := by
  cases b
  · exact h
  · exact Nat.add_left_cancel h

/-- Once a context has been given up, its own core has 32 FREE registers in each bank. -/
theorem EngineSound.freeGivenUp_length {c : Nat} {s : State} (h : EngineSound s) (hc : c < s.cfg.numContexts)
    (ha : (s.ctx c).attached = true) (b : Bank) : 32 ≤ (freeGivenUp s c (s.ctx c).core b).length := by
  let targets := (List.range 32).map (fun i => (cmap (s.ctx c) (bankReg b i)).getD 0)
  have hcmap : ∀ i < 32, cmap (s.ctx c) (bankReg b i) = some ((cmap (s.ctx c) (bankReg b i)).getD 0) := fun i hi => by
    obtain ⟨p, hp⟩ := h.exists_cmap hc ha (bankReg_spec b hi).1
    rw [hp]
    rfl
  have hnodup : targets.Nodup := by
    refine List.Nodup.map_on (fun i hi j hj hij => ?_) List.nodup_range
    rw [List.mem_range] at hi hj
    obtain ⟨hi64, hib⟩ := bankReg_spec b hi
    obtain ⟨hj64, hjb⟩ := bankReg_spec b hj
    exact bankReg_inj (h.cmap_inj hc ha hi64 hj64 (hib.trans hjb.symm) (hcmap i hi) (hij ▸ hcmap j hj))
  have hsub : targets ⊆ freeGivenUp s c (s.ctx c).core b := fun p hp => by
    obtain ⟨i, hi, rfl⟩ := List.mem_map.mp hp
    rw [List.mem_range] at hi
    obtain ⟨hi64, hib⟩ := bankReg_spec b hi
    have hlt := ((h.ctx c hc).bufs.chains ha _ hi64).cmap_lt ((cmap_eq _ _).symm.trans (hcmap i hi))
    have hholds : holds (s.ctx c) b ((cmap (s.ctx c) (bankReg b i)).getD 0) = true := by
      rw [holds, Bool.or_eq_true]
      exact .inr (List.any_eq_true.mpr ⟨bankReg b i, List.mem_range.mpr hi64, by simpa [hib] using hcmap i hi⟩)
    refine List.mem_filter.mpr ⟨List.mem_range.mpr hlt, ?_⟩
    rw [regGivenUp, if_pos ⟨rfl, hholds⟩]
    rfl
  calc 32 = targets.length := by simp [targets]
    _ ≤ _ := (List.subperm_of_subset hnodup hsub).length_le

/-! ### Admission after it -/

section Admission

variable {c k j : Nat} {s t u : State} (h : GivenUp c s t) (hadmit : AdmittedTo c k j t u)

include h hadmit

theorem GivenUp.admitted : Admitted s u c k j (freeGivenUp s c k) (Safety.regGivenUp s c k) := by
  have hadmitted := hadmit.admitted
  rwa [Admitted, h.cfg, h.now, funext fun b => h.freeList k b, funext fun b => funext fun p => h.reg k b p] at hadmitted

theorem GivenUp.admitted_slotOf (k' i : Nat) : (u.core k').slotOf i = if k' = k ∧ i = j then some c
    else if k' = (s.ctx c).core ∧ i = (s.ctx c).slot then none else (s.core k').slotOf i := by
  rw [hadmit.slotOf, h.slotOf]

theorem GivenUp.admitted_wregs : WregsUndone s u c (s.ctx c).robRing.num := fun a =>
  (congrArg (fun x : Context => x.wregOf a) hadmit.ctx :).trans (h.wregs a)

theorem GivenUp.admitted_memory : MemoryUndone s u c (s.ctx c).robRing.num := by
  obtain ⟨_, _, _, henv, _⟩ := hadmit.around
  rw [MemoryUndone, henv]
  exact h.memory

end Admission

/-- Settles O50: flush, eviction and admission, each by its specification. -/
theorem transferMovesContext : Obligations.TransferMovesContext := by
  intro s c k j hengine hl hc hk ha hpast hj hempty hlower x n free hroom haccepts
  have h := (engineOk_iff s).mp hengine
  obtain ⟨s1, s2, hflush, hevict, hgiven⟩ := h.flush_evict_succeed hc ha hpast haccepts
  have hslot : emptySlot k.toNat s2 = some j := emptySlot_eq_some.mpr
    ⟨hgiven.cfg ▸ hj, (hgiven.empty_iff _ _).mpr hempty, fun i hi hnone => hlower i hi ((hgiven.empty_iff _ _).mp hnone)⟩
  have hfree : ∀ b, 32 ≤ (freeList s2 k.toNat b).length := fun b => by
    rw [hgiven.freeList]
    obtain hown | ⟨hint, hfp⟩ := hroom
    · rw [hown]
      exact h.freeGivenUp_length hc ha b
    · cases b
      · exact hint
      · exact hfp
  obtain ⟨t, hadmit, hspec⟩ := admitTo_spec (c := c.toNat) hslot (hfree .int) (hfree .fp)
  have hcore : ∀ k', k' ≠ k.toNat → t.core k' = s2.core k' := hspec.core_ne
  obtain ⟨hcfg, hlatch, htrace, _, hport, hnow⟩ := hspec.around
  obtain ⟨hiq, hwq⟩ := hgiven.queues
  refine ⟨_, exec_transferContext_ok hl hc ha hk hflush hevict hadmit, ?_, (hgiven.admitted hspec :), fun k' b p hk' => ?_,
    (hgiven.admitted_slotOf hspec :), (hgiven.admitted_wregs hspec :), ⟨fun k' => (hspec.iqCount k').trans (hiq k'),
      fun k' q => (hspec.wq k' q).trans (hwq k' q)⟩, (hgiven.admitted_memory hspec :),
    (congrArg Context.fetchPc hspec.ctx :).trans hgiven.fetchPc,
    (congrArg Context.fetchStallUntil hspec.ctx :).trans hgiven.fetchStallUntil,
    fun b i => (congrArg (fun x : Context => x.gen b i) hspec.ctx :).trans (hgiven.gen b i), htrace.trans hgiven.trace,
    fun j' hj' => (hspec.ctx_ne j' hj').trans (hgiven.ctx_ne j' hj'),
    fun k' hcore' hk' => (hcore k' hk').trans (hgiven.core_ne k' hcore'), hspec.nextSeq.trans hgiven.nextSeq,
    hcfg.trans hgiven.cfg, hlatch.trans hgiven.latch, hport.trans hgiven.port, hnow.trans hgiven.now⟩
  · have hslot : (t.ctx c.toNat).slot = j := (congrArg Context.slot hspec.ctx :)
    rw [hslot]
    rfl
  · rw [← hgiven.reg]
    exact congrArg (fun y : Core => Table.get PhysReg.reset (y.prf b) p) (hcore k' hk')

/-- A transfer to another core without room. -/
theorem GivenUp.rejected {c k : Nat} {s t : State} (h : GivenUp c s t) (hk : (s.ctx c).core ≠ k) {r : RejectReason}
    (hr : (∀ j < s.cfg.maxContexts, (s.core k).slotOf j ≠ none) ∧ r = .coreFull
      ∨ ¬(∀ j < s.cfg.maxContexts, (s.core k).slotOf j ≠ none)
        ∧ ((Safety.freeList s k .int).length < 32 ∨ (Safety.freeList s k .fp).length < 32) ∧ r = .leaseShort) :
    admitTo c k t = .error r := by
  have hcore : t.core k = s.core k := h.core_ne k (Ne.symm hk)
  have hfree : ∀ b, Safety.freeList t k b = Safety.freeList s k b := fun b => freeList_congr h.cfg fun p => by
    rw [State.reg, hcore]
    rfl
  have hslots : emptySlot k t = none ↔ ∀ j < s.cfg.maxContexts, (s.core k).slotOf j ≠ none := by
    rw [emptySlot_eq_none, h.cfg, hcore]
  obtain ⟨hfull, rfl⟩ | ⟨hnot, hshort, rfl⟩ := hr
  · exact admitTo_coreFull (hslots.mpr hfull)
  · exact admitTo_leaseShort (fun hnone => hnot (hslots.mp hnone)) (by rwa [hfree, hfree])

/-- Settles O51: the refusals of the admission, and the room a context leaves on its own core. -/
theorem transferRejectedLeavesDetached : Obligations.TransferRejectedLeavesDetached := by
  intro s c k hengine hl hc hk ha hpast x n full short haccepts
  have h := (engineOk_iff s).mp hengine
  obtain ⟨s1, s2, hflush, hevict, hgiven⟩ := h.flush_evict_succeed hc ha hpast haccepts
  refine ⟨fun r hne hr => ?_, fun hown => ?_⟩
  · refine ⟨_, exec_transferContext_rejected hl hc ha hk hflush hevict (hgiven.rejected hne hr), rfl, hgiven.attached, ?_,
      fun b p => ?_, hgiven.wregs, hgiven.queues, hgiven.memory, hgiven.fetchPc, hgiven.icount, hgiven.trace, hgiven.ctx_ne,
      hgiven.core_ne⟩
    · exact (hgiven.slotOf _ _).trans (if_pos ⟨rfl, rfl⟩)
    · refine (hgiven.reg _ b p).trans ?_
      simp [regGivenUp, x]
  · obtain ⟨_, hslot, _⟩ := h.seat _ hc ha
    have hempty : (s2.core k.toNat).slotOf x.slot = none := (hgiven.slotOf _ _).trans (if_pos ⟨hown.symm, rfl⟩)
    obtain ⟨j, hj⟩ := Option.ne_none_iff_exists'.mp fun hnone =>
      emptySlot_eq_none.mp hnone x.slot (hgiven.cfg.symm ▸ hslot) hempty
    obtain ⟨_, _, hlower⟩ := emptySlot_eq_some.mp hj
    have hfree : ∀ b, 32 ≤ (freeList s2 k.toNat b).length := fun b => by
      rw [hgiven.freeList, ← hown]
      exact h.freeGivenUp_length hc ha b
    obtain ⟨t, hadmit, hspec⟩ := admitTo_spec (c := c.toNat) hj (hfree .int) (hfree .fp)
    have hstands : (t.ctx c.toNat).slot = j := (congrArg Context.slot hspec.ctx :)
    refine ⟨_, j, exec_transferContext_ok hl hc ha hk hflush hevict hadmit, ?_, ?_, (congrArg Context.attached hspec.ctx :),
      (congrArg Context.core hspec.ctx :), hstands, (congrArg (fun y : Context => y.robRing.num) hspec.ctx :),
      (hgiven.admitted_wregs hspec :), (hgiven.admitted_memory hspec :)⟩
    · rw [hstands]
      rfl
    · by_contra hlt
      exact hlower x.slot (Nat.lt_of_not_le hlt) hempty

end Sys2Proof.Machine

/-! PROOFS. One instruction executed and dispatched (20_memory.md R90, 40_dispatch_rename.md R154), and a run of them. -/

namespace Sys2Proof.Machine

open Sys2Proof.Safety Sys2Proof.Config

/-! ### A DISPATCH that answers OK -/

theorem dispatchBody_ok {s s' : State} {c : BitVec 8} {p : DispatchWords} {r : Response} (hl : s.latch.set = false)
    (h : dispatchBody c p s = .done s' r) (hr : r.status = .ok) : Dispatchable s c p := by
  unfold dispatchBody checkCtx checkAttached at h
  dsimp only at h
  split at h
  next hc =>
    split at h
    next ha =>
      split at h
      · cases h
        cases hr
      next hfits =>
        split at h
        · cases h
          cases hr
        next hsize =>
          split at h
          · cases h
            cases hr
          next hstall => exact dispatchable_of_checks hl hc ha hfits hsize hstall
    · cases h
  · cases h
    cases hr

/-- A DISPATCH that answers OK found every resource. -/
theorem dispatchable_of_ok {s t : State} {c : BitVec 8} {p : DispatchWords} (hl : s.latch.set = false)
    (h : exec (.dispatch c p) s = .next t) (hok : AnswersOk t) : Dispatchable s c p := by
  obtain ⟨hset, _⟩ | ⟨_, s', r, hbody, rfl⟩ | ⟨_, s', d, _, rfl⟩ := perform_cases _ s (dispatchBody c p s) t h
  · rw [hl] at hset
    cases hset
  · exact dispatchBody_ok hl hbody (Option.some.inj hok)
  · cases Option.some.inj hok

/-! ### One instruction -/

/-- The state in which an instruction is dispatched: its cycle has come and the executor has written its bytes. -/
def fedState (f : Fed) (s : State) : State := executorStore f.2.1.memAddr f.2.2 { s with now := f.1 }

/-- The ROB entry of an instruction that context `c` dispatches. -/
def fedEntry (c : BitVec 8) (f : Fed) (s : State) : Entry := newRobEntry (fedState f s) c f.2.1

/-- The LSQ entry of an instruction, if it is a load or store. -/
def fedMem (f : Fed) (s : State) : List Entry :=
  if isMem (classify s.cfg f.2.1.opcode) then [lsqEntryOf (classify s.cfg f.2.1.opcode) f.2.1 s.eng.nextSeq] else []

theorem dispatchOne_eq {c : BitVec 8} {f : Fed} {s u : State} (hl : s.latch.set = false) (h : dispatchOne c f s = some u) :
    Dispatchable (fedState f s) c f.2.1 ∧ ∃ r,
      u = (dispatchWrite c.toNat (classify s.cfg f.2.1.opcode) f.2.1 (fedState f s)).answer r := by
  unfold dispatchOne at h
  split at h
  next t hexec =>
    change exec (.dispatch c f.2.1) (fedState f s) = .next t at hexec
    split at h
    next hok =>
      have hd := dispatchable_of_ok (s := fedState f s) hl hexec hok
      cases h
      cases (exec_dispatch hd).symm.trans hexec
      exact ⟨hd, _, rfl⟩
    · cases h
  · cases h
  · cases h

/-- Context `c` has executed and dispatched the instruction `f`. -/
structure FedStep (c : BitVec 8) (f : Fed) (s u : State) : Prop where
  sound : EngineSound u
  latch : u.latch.set = false
  cfg : u.cfg = s.cfg
  attached : (u.ctx c.toNat).attached = true
  core : (u.ctx c.toNat).core = (s.ctx c.toNat).core
  room : (s.ctx c.toNat).robRing.num ≠ (s.ctx c.toNat).robRing.cap
  robRing : (u.ctx c.toNat).robRing = (s.ctx c.toNat).robRing.pushTail
  entry : ∀ i, (u.ctx c.toNat).entry .rob i
    = if i = (s.ctx c.toNat).robRing.tail then fedEntry c f s else (s.ctx c.toNat).entry .rob i
  gen : ∀ i, (u.ctx c.toNat).gen .rob i
    = if i = (s.ctx c.toNat).robRing.tail then (s.ctx c.toNat).gen .rob (s.ctx c.toNat).robRing.tail + 1
      else (s.ctx c.toNat).gen .rob i
  liveRob : liveEntries (u.ctx c.toNat) .rob = liveEntries (s.ctx c.toNat) .rob ++ [fedEntry c f s]
  liveLsq : liveEntries (u.ctx c.toNat) .lsq = liveEntries (s.ctx c.toNat) .lsq ++ fedMem f s
  lsqHead : (u.ctx c.toNat).lsqRing.head = (s.ctx c.toNat).lsqRing.head
  lsqCap : (u.ctx c.toNat).lsqRing.cap = (s.ctx c.toNat).lsqRing.cap
  wreg : (u.ctx c.toNat).wreg = (s.ctx c.toNat).wreg
  icount : (u.ctx c.toNat).icount = (s.ctx c.toNat).icount + 1
  iqCount : ∀ k, (u.core k).iqCount = (s.core k).iqCount + if k = (s.ctx c.toNat).core then 1 else 0
  link : ∀ q, (fedEntry c f s).physreg = some q →
    (fedEntry c f s).oldPhysreg = some ((s.ctx c.toNat).renameOf (fedEntry c f s).archreg.toNat)
  rename : ∀ a, ¬((fedEntry c f s).archreg.toNat = a ∧ (fedEntry c f s).physreg.isSome = true) →
    (u.ctx c.toNat).renameOf a = (s.ctx c.toNat).renameOf a
  taken : ∀ b q, (fedEntry c f s).physreg = some q ∧ bankOf (fedEntry c f s).archreg.toNat = b →
    (s.reg (s.ctx c.toNat).core b q).state = .free ∧ (u.reg (s.ctx c.toNat).core b q).state = .alloc
  reg : ∀ k b q, ¬(k = (s.ctx c.toNat).core ∧ (fedEntry c f s).physreg = some q
    ∧ bankOf (fedEntry c f s).archreg.toNat = b) → u.reg k b q = s.reg k b q
  env : u.env = { s.env with
    mem := s.env.mem.writeBytes f.2.1.memAddr f.2.2
    insnGlobal := s.env.insnGlobal + 1
    insn := Table.put s.env.insn c.toNat (Table.get 0 s.env.insn c.toNat + 1) }
  ctx_ne : SameCtxsBut c.toNat s u
  fits : isMem (classify s.cfg f.2.1.opcode) = true → sizeLegal f.2.1.memSize = true
  archreg : (classify s.cfg f.2.1.opcode).dest ≠ .none → (fedEntry c f s).archreg.toNat = f.2.1.archreg.toNat
  isWriter : (fedEntry c f s).physreg.isSome = true ↔ (classify s.cfg f.2.1.opcode).dest ≠ .none

theorem fedStep {c : BitVec 8} {f : Fed} {s u : State} (hs : EngineSound s) (hl : s.latch.set = false)
    (h : dispatchOne c f s = some u) : FedStep c f s u := by
  obtain ⟨hd, r, rfl⟩ := dispatchOne_eq hl h
  have hs' : EngineSound (fedState f s) := hs.congr rfl rfl
  have hctx := dispatchWrite_ctx_eq (fedState f s) c f.2.1
  have hstate := dispatched_reg_state hd (s.ctx c.toNat).core
  have hother := fun {a} => dispatched_renameOf_other hd (a := a)
  have hlink := fun {q} => newRobEntry_link hd (q := q)
  have harch := robEntryOf_archreg hd s.eng.nextSeq (destOf (fedState f s) c f.2.1)
  have hwriter : (fedEntry c f s).physreg.isSome = true ↔ (classify s.cfg f.2.1.opcode).dest ≠ .none := by
    have hiff := destOf_isSome_iff hd
    rwa [← newRobEntry_isSome] at hiff
  obtain ⟨hcfg, hlatch, _, _, _, henv⟩ := dispatchWrite_around c.toNat (classify s.cfg f.2.1.opcode) f.2.1 (fedState f s)
  have hrobRing := Context.dispatched_robRing (s.ctx c.toNat) (classify s.cfg f.2.1.opcode) f.2.1 s.eng.nextSeq
    (destOf (fedState f s) c f.2.1)
  have hlsqRing := Context.dispatched_lsqRing (s.ctx c.toNat) (classify s.cfg f.2.1.opcode) f.2.1 s.eng.nextSeq
    (destOf (fedState f s) c f.2.1)
  obtain ⟨_, hc, ha, _, hsize, hrob, _⟩ := id hd
  constructor
  case sound => exact (hs'.dispatch hd).congr rfl rfl
  case latch => exact (congrArg FatalLatch.set hlatch).trans hl
  case cfg => exact hcfg
  case attached => exact (congrArg Context.attached hctx).trans ((Context.dispatched_attached ..).trans ha)
  case core => exact (congrArg Context.core hctx).trans (Context.dispatched_core ..)
  case room => exact hrob
  case robRing => exact (congrArg Context.robRing hctx).trans hrobRing
  case entry => exact fun i => (congrArg (fun x : Context => x.entry .rob i) hctx).trans (Context.dispatched_entry_rob _ _ _ _ _ i)
  case gen => exact fun i => (congrArg (fun x : Context => x.gen .rob i) hctx).trans (Context.dispatched_gen_rob _ _ _ _ _ i)
  case liveRob => exact dispatched_liveRob hs' hd
  case liveLsq => exact dispatched_liveLsq hs' hd
  case lsqHead =>
    refine (congrArg (fun x : Context => x.lsqRing.head) hctx).trans ((congrArg Ring.head hlsqRing).trans ?_)
    split <;> rfl
  case lsqCap =>
    refine (congrArg (fun x : Context => x.lsqRing.cap) hctx).trans ((congrArg Ring.cap hlsqRing).trans ?_)
    split <;> rfl
  case wreg => exact (congrArg Context.wreg hctx).trans (Context.dispatched_wreg ..)
  case icount => exact (congrArg Context.icount hctx).trans (Context.dispatched_icount ..)
  case iqCount => exact dispatchWrite_iqCount c.toNat _ f.2.1 (fedState f s)
  case link => exact fun q hq => (hlink hq).1
  case rename => exact fun a ha => (congrArg (fun x : Context => x.renameOf a) hctx).trans (hother ha)
  case taken => exact fun b q hq => (hstate b q).1 ⟨hq, rfl⟩
  case reg =>
    intro k b q hno
    by_cases hk : k = (s.ctx c.toNat).core
    · subst hk
      exact (hstate b q).2 fun hq => hno ⟨rfl, hq⟩
    · have hcore := dispatchWrite_core_ne c.toNat (classify s.cfg f.2.1.opcode) f.2.1 (fedState f s) hk
      exact congrArg (fun x : Core => Table.get PhysReg.reset (x.prf b) q) hcore
  case env => exact henv
  case ctx_ne => exact fun j hj => dispatchWrite_ctx_ne c.toNat _ f.2.1 (fedState f s) hj
  case fits => exact hsize
  case archreg => exact harch
  case isWriter => exact hwriter

/-! ### A run of instructions -/

/-- Whether an entry owns register `q` of bank `b`. -/
def Entry.owns (e : Entry) (b : Bank) (q : Nat) : Bool :=
  decide (e.physreg = some q) && decide (bankOf e.archreg.toNat = b)

theorem Entry.owns_iff {e : Entry} {b : Bank} {q : Nat} :
    e.owns b q = true ↔ e.physreg = some q ∧ bankOf e.archreg.toNat = b := by
  rw [Entry.owns, Bool.and_eq_true, decide_eq_true_eq, decide_eq_true_eq]

/-- Context `c` has executed and dispatched a run of instructions, whose entries are `E` and `M`. -/
structure FedRun (c : BitVec 8) (s u : State) (E M : List Entry) : Prop where
  sound : EngineSound u
  latch : u.latch.set = false
  cfg : u.cfg = s.cfg
  attached : (u.ctx c.toNat).attached = true
  core : (u.ctx c.toNat).core = (s.ctx c.toNat).core
  slots : ∃ l, liveSlots (u.ctx c.toNat).robRing = liveSlots (s.ctx c.toNat).robRing ++ l
  gen : ∀ i ∈ liveSlots (s.ctx c.toNat).robRing, (u.ctx c.toNat).gen .rob i = (s.ctx c.toNat).gen .rob i
  liveRob : liveEntries (u.ctx c.toNat) .rob = liveEntries (s.ctx c.toNat) .rob ++ E
  liveLsq : liveEntries (u.ctx c.toNat) .lsq = liveEntries (s.ctx c.toNat) .lsq ++ M
  mems : M.length = (E.filter (fun e => e.eaComp)).length
  robHead : (u.ctx c.toNat).robRing.head = (s.ctx c.toNat).robRing.head
  robCap : (u.ctx c.toNat).robRing.cap = (s.ctx c.toNat).robRing.cap
  lsqHead : (u.ctx c.toNat).lsqRing.head = (s.ctx c.toNat).lsqRing.head
  lsqCap : (u.ctx c.toNat).lsqRing.cap = (s.ctx c.toNat).lsqRing.cap
  wreg : (u.ctx c.toNat).wreg = (s.ctx c.toNat).wreg
  icount : (u.ctx c.toNat).icount = (s.ctx c.toNat).icount + (E.filter (fun e => e.inIq)).length
  iqCount : ∀ k, (u.core k).iqCount
    = (s.core k).iqCount + if k = (s.ctx c.toNat).core then (E.filter (fun e => e.inIq)).length else 0
  state : ∀ k b q, (u.reg k b q).state
    = if k = (s.ctx c.toNat).core ∧ E.any (fun e => e.owns b q) = true then .alloc else (s.reg k b q).state
  free : ∀ b q, E.any (fun e => e.owns b q) = true → (s.reg (s.ctx c.toNat).core b q).state = .free
  insnGlobal : u.env.insnGlobal = s.env.insnGlobal + E.length
  insn : ∀ j, Table.get 0 u.env.insn j = Table.get 0 s.env.insn j + if j = c.toNat then (E.length : Int) else 0
  ctx_ne : SameCtxsBut c.toNat s u

theorem FedRun.refl {c : BitVec 8} {s : State} (hs : EngineSound s) (hl : s.latch.set = false)
    (ha : (s.ctx c.toNat).attached = true) : FedRun c s s [] [] := by
  refine ⟨hs, hl, rfl, ha, rfl, ⟨[], (List.append_nil _).symm⟩, fun _ _ => rfl, (List.append_nil _).symm,
    (List.append_nil _).symm, rfl, rfl, rfl, rfl, rfl, rfl, rfl, fun k => ?_, fun k b q => ?_, nofun, ?_, fun j => ?_,
    fun _ _ => rfl⟩
  · simp
  · simp
  · simp
  · simp

theorem FedRun.trans {c : BitVec 8} {s u v : State} {E M E' M' : List Entry} (h : FedRun c s u E M) (h' : FedRun c u v E' M') :
    FedRun c s v (E ++ E') (M ++ M') := by
  obtain ⟨l, hl⟩ := h.slots
  obtain ⟨l', hl'⟩ := h'.slots
  refine ⟨h'.sound, h'.latch, h'.cfg.trans h.cfg, h'.attached, h'.core.trans h.core, ⟨l ++ l', ?_⟩, fun i hi => ?_, ?_, ?_, ?_,
    h'.robHead.trans h.robHead, h'.robCap.trans h.robCap, h'.lsqHead.trans h.lsqHead, h'.lsqCap.trans h.lsqCap,
    h'.wreg.trans h.wreg, ?_, fun k => ?_, fun k b q => ?_, fun b q hq => ?_, ?_, fun j => ?_,
    fun j hj => (h'.ctx_ne j hj).trans (h.ctx_ne j hj)⟩
  · rw [hl', hl, List.append_assoc]
  · rw [h'.gen i (by rw [hl]; exact List.mem_append_left _ hi), h.gen i hi]
  · rw [h'.liveRob, h.liveRob, List.append_assoc]
  · rw [h'.liveLsq, h.liveLsq, List.append_assoc]
  · rw [List.length_append, h.mems, h'.mems, List.filter_append, List.length_append]
  · rw [h'.icount, h.icount, List.filter_append, List.length_append, Nat.add_assoc]
  · rw [h'.iqCount, h.iqCount, h.core, List.filter_append, List.length_append]
    split <;> omega
  · rw [h'.state, h.state, h.core, List.any_append]
    by_cases hk : k = (s.ctx c.toNat).core
    · simp only [hk, true_and]
      cases E.any _ <;> cases E'.any _ <;> rfl
    · simp only [hk, false_and, if_false]
  · rw [List.any_append, Bool.or_eq_true] at hq
    obtain hq | hq := hq
    · exact h.free b q hq
    · have hfree := h'.free b q hq
      rw [h.state, h.core] at hfree
      split at hfree
      · cases hfree
      · exact hfree
  · rw [h'.insnGlobal, h.insnGlobal, List.length_append]
    omega
  · rw [h'.insn, h.insn, List.length_append]
    split <;> omega

theorem fedMem_length (c : BitVec 8) (f : Fed) (s : State) :
    (fedMem f s).length = ([fedEntry c f s].filter (fun e => e.eaComp)).length := by
  have hea : (fedEntry c f s).eaComp = isMem (classify s.cfg f.2.1.opcode) := rfl
  rw [fedMem, List.filter_singleton, hea]
  cases isMem (classify s.cfg f.2.1.opcode) <;> rfl

/-- One instruction as a run. -/
theorem FedStep.run {c : BitVec 8} {f : Fed} {s u : State} (hs : EngineSound s) (hc : c.toNat < s.cfg.numContexts)
    (h : FedStep c f s u) : FedRun c s u [fedEntry c f s] (fedMem f s) := by
  have hring := (hs.ctx _ hc).rings.1
  have htail := tail_not_mem_liveSlots hring h.room
  have hiq : ([fedEntry c f s].filter (fun e => e.inIq)).length = 1 := rfl
  refine ⟨h.sound, h.latch, h.cfg, h.attached, h.core, ⟨[(s.ctx c.toNat).robRing.tail], ?_⟩, fun i hi => ?_, h.liveRob,
    h.liveLsq, fedMem_length c f s, by rw [h.robRing]; rfl, by rw [h.robRing]; rfl, h.lsqHead, h.lsqCap, h.wreg, ?_,
    fun k => ?_, fun k b q => ?_, fun b q hq => ?_, ?_, fun j => ?_, h.ctx_ne⟩
  · rw [h.robRing, liveSlots_pushTail hring]
  · have hne : i ≠ (s.ctx c.toNat).robRing.tail := fun heq => htail (heq ▸ hi)
    rw [h.gen, if_neg hne]
  · rw [h.icount, hiq]
  · rw [h.iqCount, hiq]
  · rw [List.any_cons, List.any_nil, Bool.or_false]
    split
    next hown =>
      obtain ⟨rfl, hown⟩ := hown
      exact (h.taken b q (Entry.owns_iff.1 hown)).2
    next hown => rw [h.reg k b q fun hno => hown ⟨hno.1, Entry.owns_iff.2 hno.2⟩]
  · rw [List.any_cons, List.any_nil, Bool.or_false] at hq
    exact (h.taken b q (Entry.owns_iff.1 hq)).1
  · rw [h.env]
    rfl
  · rw [h.env, Table.get_put]
    split
    next heq =>
      subst heq
      rfl
    · exact (Int.add_zero _).symm

/-- The run of the instructions `l`. -/
theorem fedRun {c : BitVec 8} : ∀ {l : List Fed} {s u : State}, EngineSound s → s.latch.set = false →
    c.toNat < s.cfg.numContexts → (s.ctx c.toNat).attached = true → dispatchAll c l s = some u →
    ∃ E M, E.length = l.length ∧ FedRun c s u E M := by
  intro l
  induction l with
  | nil =>
    intro s u hs hl _ ha h
    cases h
    exact ⟨[], [], rfl, .refl hs hl ha⟩
  | cons f l ih =>
    intro s u hs hl hc _ h
    rw [dispatchAll] at h
    split at h
    · cases h
    next t hone =>
      have hstep := fedStep hs hl hone
      obtain ⟨E, M, hlen, hrun⟩ := ih hstep.sound hstep.latch (hstep.cfg ▸ hc) hstep.attached h
      exact ⟨_, _, by simp [hlen, Nat.add_comm],
        (hstep.run hs hc).trans hrun⟩

end Sys2Proof.Machine

/-! PROOFS. What a command that leaves the FREE set of a context's core alone does to the context's registers: nothing
(43_rollback.md R264 item 3). -/

namespace Sys2Proof.Machine

open Sys2Proof.Safety

/-! ### What an entry says of its destination -/

/-- An entry as far as it says what it writes: the fields of the destination, set by DISPATCH for good. -/
def Entry.written (e : Entry) : Entry :=
  { Entry.blank with archreg := e.archreg, physreg := e.physreg, oldPhysreg := e.oldPhysreg, shadowValue := e.shadowValue }

/-- The destinations of a list of entries, those without one left out. -/
def writes (E : List Entry) : List Entry := (E.filter (fun e => e.physreg.isSome)).map Entry.written

theorem writes_append (E F : List Entry) : writes (E ++ F) = writes E ++ writes F := by
  rw [writes, List.filter_append, List.map_append]
  rfl

theorem writes_of_none {E : List Entry} (h : ∀ e ∈ E, e.physreg = none) : writes E = [] := by
  rw [writes, List.filter_eq_nil_iff.mpr fun e he => by rw [h e he]; exact Bool.false_ne_true]
  rfl

/-- The destinations of a list are those of its truncated entries. -/
theorem writes_eq_written (E : List Entry) : writes E = (E.map Entry.written).filter (fun e => e.physreg.isSome) := by
  rw [List.filter_map]
  rfl

theorem any_owns_writes (E : List Entry) (b : Bank) (q : Nat) :
    (writes E).any (fun e => e.owns b q) = E.any (fun e => e.owns b q) := by
  rw [writes, List.any_map, List.any_filter]
  refine List.any_congr rfl fun e => ?_
  cases h : e.physreg <;> simp [Entry.owns, Entry.written, h]

theorem firstWriter_writes (E : List Entry) (a : Nat) : firstWriter (writes E) a = (firstWriter E a).map Entry.written := by
  rw [firstWriter, writes, List.find?_map, List.find?_filter, firstWriter]
  congr 2
  funext e
  cases h : e.physreg <;> simp [Entry.written, h]

/-! ### A context whose registers are left alone -/

/-- Context `c` is as before but for live entries without a destination that it may have lost at either end of its ROB, and for
what does not concern destinations. -/
structure KeepsWriters (c : Nat) (s t : State) : Prop where
  attached : (t.ctx c).attached = (s.ctx c).attached
  core : (t.ctx c).core = (s.ctx c).core
  renameOf : ∀ a, (t.ctx c).renameOf a = (s.ctx c).renameOf a
  slots : ∃ A B, liveSlots (s.ctx c).robRing = A ++ liveSlots (t.ctx c).robRing ++ B
    ∧ ∀ i ∈ A ++ B, ((s.ctx c).entry .rob i).physreg = none
  written : ∀ i ∈ liveSlots (t.ctx c).robRing, ((t.ctx c).entry .rob i).written = ((s.ctx c).entry .rob i).written

theorem KeepsWriters.of_ring {c : Nat} {s t : State} (hattached : (t.ctx c).attached = (s.ctx c).attached)
    (hcore : (t.ctx c).core = (s.ctx c).core) (hrename : (t.ctx c).rename = (s.ctx c).rename)
    (hring : (t.ctx c).robRing = (s.ctx c).robRing)
    (hwritten : ∀ i, ((t.ctx c).entry .rob i).written = ((s.ctx c).entry .rob i).written) : KeepsWriters c s t := by
  refine ⟨hattached, hcore, fun a => by rw [Context.renameOf, hrename, Context.renameOf], ⟨[], [], ?_, nofun⟩,
    fun i _ => hwritten i⟩
  rw [hring, List.nil_append, List.append_nil]

theorem KeepsWriters.of_ctx {c : Nat} {s t : State} (h : t.ctx c = s.ctx c) : KeepsWriters c s t :=
  .of_ring (by rw [h]) (by rw [h]) (by rw [h]) (by rw [h]) fun i => by rw [h]

theorem KeepsWriters.updCtx {c : Nat} {s : State} {f : Context → Context}
    (hf : { f (s.ctx c) with
      wreg := (s.ctx c).wreg, ifq := (s.ctx c).ifq, ifqRing := (s.ctx c).ifqRing, fetchPc := (s.ctx c).fetchPc } = s.ctx c) :
    KeepsWriters c s (s.updCtx c f) := by
  have hctx := State.updCtx_ctx_same s c f
  refine .of_ring ?_ ?_ ?_ ?_ fun i => ?_
  · rw [hctx]
    exact (congrArg Context.attached hf :)
  · rw [hctx]
    exact (congrArg Context.core hf :)
  · rw [hctx]
    exact (congrArg Context.rename hf :)
  · rw [hctx]
    exact (congrArg Context.robRing hf :)
  · rw [hctx]
    exact congrArg Entry.written (congrArg (fun x : Context => x.entry .rob i) hf :)

theorem KeepsWriters.setEntry {c i : Nat} {b : Buf} {e : Entry} {s : State}
    (he : e.written = ((s.ctx c).entry b i).written) : KeepsWriters c s (s.setEntry c b i e) := by
  have hrest := State.setEntry_ctx_rest s c b i e c
  refine .of_ring (congrArg Context.attached hrest :) (congrArg Context.core hrest :) (congrArg Context.rename hrest :)
    (congrArg Context.robRing hrest :) fun j => ?_
  rw [State.entry_setEntry]
  split
  next h =>
    obtain ⟨_, rfl, rfl⟩ := h
    exact he
  · rfl

theorem KeepsWriters.releaseIqSlot (c : Nat) (b : Buf) (i : Nat) (s : State) : KeepsWriters c s (releaseIqSlot c b i s) := by
  have hrest := releaseIqSlot_ctx_rest c b i s c
  refine .of_ring (congrArg Context.attached hrest :) (congrArg Context.core hrest :) (congrArg Context.rename hrest :)
    (congrArg Context.robRing hrest :) fun j => ?_
  rw [releaseIqSlot_entry]
  split
  next h =>
    obtain ⟨_, rfl, rfl⟩ := h
    rfl
  · rfl

theorem KeepsWriters.trans {c : Nat} {s t u : State} (h : KeepsWriters c s t) (h' : KeepsWriters c t u) : KeepsWriters c s u := by
  obtain ⟨A, B, hlive, hnone⟩ := h.slots
  obtain ⟨A', B', hlive', hnone'⟩ := h'.slots
  have hkept : ∀ i ∈ liveSlots (u.ctx c).robRing, i ∈ liveSlots (t.ctx c).robRing := fun i hi => by
    rw [hlive']
    exact List.mem_append_left _ (List.mem_append_right _ hi)
  refine ⟨h'.attached.trans h.attached, h'.core.trans h.core, fun a => (h'.renameOf a).trans (h.renameOf a),
    ⟨A ++ A', B' ++ B, ?_, fun i hi => ?_⟩, fun i hi => (h'.written i hi).trans (h.written i (hkept i hi))⟩
  · rw [hlive, hlive']
    simp only [List.append_assoc]
  · have hmid : i ∈ A' ++ B' → ((s.ctx c).entry .rob i).physreg = none := fun hi => by
      have hmem : i ∈ liveSlots (t.ctx c).robRing := by
        rw [hlive']
        obtain hi | hi := List.mem_append.mp hi
        · exact List.mem_append_left _ (List.mem_append_left _ hi)
        · exact List.mem_append_right _ hi
      exact (congrArg Entry.physreg (h.written i hmem)).symm.trans (hnone' i hi)
    simp only [List.mem_append] at hi hnone hmid
    obtain (hA | hA') | hB' | hB := hi
    · exact hnone i (.inl hA)
    · exact hmid (.inl hA')
    · exact hmid (.inr hB')
    · exact hnone i (.inr hB)

/-! ### No destination is given up -/

section Free

variable {c : Nat} {s t : State} (h : EngineSound s) (hc : c < s.cfg.numContexts) (ha : (s.ctx c).attached = true)
  (hfree : SameFree s t (s.ctx c).core)

include hfree in
/-- No register of the core has become FREE. -/
theorem not_freed {b : Bank} {p : Nat} (hp : p < s.cfg.prfBankSize) (hs : (s.reg (s.ctx c).core b p).state ≠ .free) :
    (t.reg (s.ctx c).core b p).state ≠ .free := by
  have heq := hfree b (mem_everyBank b) p hp
  rw [State.isFree, State.isFree, decide_eq_false hs] at heq
  exact of_decide_eq_false heq

include h hc ha

theorem EngineSound.physreg_lt {e : Entry} {p : Nat} (he : e ∈ liveEntries (s.ctx c) .rob) (hp : e.physreg = some p) :
    p < s.cfg.prfBankSize :=
  ((h.ctx c hc).bufs.chains ha e.archreg.toNat e.archreg.isLt).physreg_lt (mem_writersOf.mpr ⟨he, rfl, by rw [hp]; rfl⟩) hp

include hfree

/-- What is squashed without freeing a register has none. -/
theorem squashed_physreg_none {n : Nat} (hregs : RegsUndone s t c n) {e : Entry} (he : e ∈ squashed (s.ctx c) n) :
    e.physreg = none := by
  cases hp : e.physreg with
  | none => rfl
  | some p =>
    have hmem := List.mem_of_mem_drop he
    have halloc := h.alloc_of_mem hc ha hmem hp
    refine absurd ?_ (not_freed hfree (b := bankOf e.archreg.toNat) (h.physreg_lt hc ha hmem hp) (by rw [halloc]; decide))
    rw [hregs.1, if_pos ⟨rfl, List.any_eq_true.mpr ⟨e, he, by simp [hp]⟩⟩]

theorem Squashed.keepsWriters {n : Nat} (hsquashed : Squashed c n s t) : KeepsWriters c s t := by
  have hnone := fun e => squashed_physreg_none h hc ha hfree hsquashed.regs (e := e)
  refine ⟨(congrArg Context.attached hsquashed.frame.ctx :), hsquashed.frame.core, fun a => ?_,
    ⟨[], squashedSlots (s.ctx c) n .rob, hsquashed.slots .rob, fun i hi => hnone _ ?_⟩,
    fun i hi => congrArg Entry.written (hsquashed.entry .rob i hi)⟩
  · have hno : firstWriter (squashed (s.ctx c) n) a = none := List.find?_eq_none.mpr fun e he => by simp [hnone e he]
    rw [hsquashed.regs.2, hno]
    rfl
  · rw [squashed, liveEntries, ← List.map_drop]
    exact List.mem_map_of_mem hi

end Free

section Commands

variable {c : Nat} {s t : State} (h : EngineSound s) (hc : c < s.cfg.numContexts) (ha : (s.ctx c).attached = true)
  (hfree : SameFree s t (s.ctx c).core)

include h hc ha hfree

theorem rolledBack_keepsWriters {i : Nat} {m : Bool} {s1 : State}
    (hsquash : squashMany c (youngerCount (s.ctx c) i) s = .ok s1)
    (ht : t = afterRollback c i m (youngerCount (s.ctx c) i) s1) : KeepsWriters c s t := by
  have hsquashed := h.squashed_of_ok hc ha (youngerCount_le _ i) hsquash
  have hredirected := redirected_afterRollback c i (youngerCount (s.ctx c) i) m s1
  have hctx := afterRollback_ctx_same c i (youngerCount (s.ctx c) i) m s1
  subst ht
  have hfree1 : SameFree s s1 (s.ctx c).core := fun b hb p hp => by
    rw [← hfree b hb p hp, State.isFree, State.isFree, State.reg, State.reg, hredirected.core]
  refine (hsquashed.keepsWriters h hc ha hfree1).trans
    (.of_ring hredirected.attached hredirected.ctxCore hredirected.rename ?_ fun j => ?_)
  · rw [hctx]
  · rw [hctx]
    rfl

theorem flushed_keepsWriters (hflush : flushBody c s = .ok t) : KeepsWriters c s t := by
  obtain ⟨s1, hsquash, _, rfl⟩ := flushBody_ok c s t hflush
  have hsquashed := h.squashed_of_ok hc ha (Nat.le_refl _) hsquash
  have hctx := flushFinish_ctx_same c (s.ctx c).robRing.num (flushPc (s.ctx c)) s1
  have hempty : liveSlots (s1.ctx c).robRing = [] := by
    rw [← List.length_eq_zero_iff, liveSlots_length, hsquashed.robNum, Nat.sub_self]
  have hempty' : liveSlots ((flushFinish c (s.ctx c).robRing.num (flushPc (s.ctx c)) s1).ctx c).robRing = [] := by
    rw [hctx]
    rfl
  refine (hsquashed.keepsWriters (t := s1) h hc ha hfree).trans ⟨?_, ?_, fun a => ?_, ⟨[], [], ?_, nofun⟩, ?_⟩
  · rw [hctx]
    rfl
  · rw [hctx]
    rfl
  · rw [hctx]
    rfl
  · rw [hempty, hempty']
    rfl
  · rw [hempty']
    exact nofun

theorem committed_keepsWriters {s1 : State} (hnum : (s.ctx c).robRing.num ≠ 0)
    (hreg : commitReg (s.ctx c).core (s.ctx c).oldest s = .ok s1) (ht : t = retireHead c (s.ctx c).oldest s1) :
    KeepsWriters c s t := by
  obtain ⟨_, hregs⟩ := commitReg_spec hreg
  have hnone : (s.ctx c).oldest.physreg = none := by
    cases hp : (s.ctx c).oldest.physreg with
    | none => rfl
    | some p =>
      obtain ⟨hno, _⟩ | ⟨q, old, hq, hold, halloc, harch, _⟩ := commitReg_ok _ _ s s1 hreg
      · cases hp.symm.trans hno
      · have hcmap := (cmap_oldest h hc hnum hreg hq).trans hold
        have hchain := (h.ctx c hc).bufs.chains ha _ (s.ctx c).oldest.archreg.isLt
        refine absurd ?_ (not_freed hfree (hchain.cmap_lt ((cmap_eq _ _).symm.trans hcmap)) (by rw [harch]; decide))
        have hne : (s.ctx c).oldest.physreg ≠ some old := fun heq => by
          cases hq.symm.trans heq
          cases halloc.symm.trans harch
        rw [ht, retireHead_reg, hregs, if_neg fun h => hne h.2.2, if_pos ⟨rfl, rfl, by simp [hq], hold⟩]
  have hctx := committed_ctx hreg
  subst ht
  refine ⟨(congrArg Context.attached hctx :), (congrArg Context.core hctx :), fun a => (congrArg (fun x : Context => x.renameOf a) hctx :),
    ⟨[(s.ctx c).robRing.head], [], ?_, fun i hi => ?_⟩, fun i _ => congrArg Entry.written (committed_entry hreg .rob i)⟩
  · rw [hctx, List.append_nil]
    exact liveSlots_eq_head_cons (h.ctx c hc).rings.1 hnum
  · rw [List.mem_singleton.mp hi]
    exact hnone

/-- An eviction frees the rename targets. -/
theorem not_evicted (hevict : evict c s = .ok t) : False := by
  obtain ⟨_, _, _, hreturnable⟩ := evict_quiescent hevict
  obtain ⟨harch, _⟩ := hreturnable 0 (by decide)
  refine not_freed hfree (h.renameOf_lt hc ha (a := 0) (by decide)) (by rw [harch]; decide) ?_
  rw [(evictedFrom_of_ok hevict).reg, if_pos ⟨rfl, List.any_eq_true.mpr ⟨0, List.mem_range.mpr (by decide), by simp⟩⟩]

end Commands

/-- A command that leaves the FREE set of the context's core alone, neither dispatches of the context nor transfers it. -/
theorem Performed.keepsWriters {i : Instr} {s t : State} {r : Response} {c : BitVec 8} (hp : Performed s i t r)
    (h : EngineSound s) (hc : c.toNat < s.cfg.numContexts) (ha : (s.ctx c.toNat).attached = true)
    (hfree : SameFree s t (s.ctx c.toNat).core) (hdispatch : ∀ p, i = .dispatch c p → r.status ≠ .ok)
    (htransfer : ∀ k, i ≠ .transferContext c k) : KeepsWriters c.toNat s t := by
  by_cases hreach : ReachesCtx i c.toNat
  case neg => exact .of_ctx (hp.within.ctx _ hreach)
  obtain ⟨c', huses, heq⟩ := hreach
  cases BitVec.eq_of_toNat_eq heq
  cases hp with
  | declined _ => exact .of_ctx rfl
  | read _ => exact .of_ctx rfl
  | deadRead _ _ _ _ => exact .of_ctx rfl
  | dispatched _ =>
    cases huses
    exact absurd rfl (hdispatch _ rfl)
  | markedQueued _ _ he =>
    cases huses
    exact .setEntry (by rw [Entry.toQueued_spec he]; rfl)
  | issued _ _ he =>
    cases huses
    exact (KeepsWriters.setEntry (by rw [(Entry.toIssued_spec he).2.2]; rfl)).trans (.releaseIqSlot _ _ _ _)
  | completed _ _ he =>
    cases huses
    exact .setEntry (by rw [(Entry.toCompleted_spec he).2]; rfl)
  | committed _ _ hnum _ _ hreg =>
    cases huses
    exact committed_keepsWriters h hc ha hfree hnum hreg rfl
  | rolledBack _ _ hsquash =>
    cases huses
    exact rolledBack_keepsWriters h hc ha hfree hsquash rfl
  | flushed _ _ hflush =>
    cases huses
    exact flushed_keepsWriters h hc ha hfree hflush
  | added _ _ hdet _ =>
    cases huses
    cases hdet.symm.trans ha
  | addRejected _ _ _ => exact .of_ctx rfl
  | ejected _ _ hevict =>
    cases huses
    exact (not_evicted h hc ha hfree hevict).elim
  | transferred _ _ _ _ _ _ =>
    cases huses
    exact absurd rfl (htransfer _)
  | transferRejected _ _ _ _ _ _ =>
    cases huses
    exact absurd rfl (htransfer _)
  | setReady _ _ => cases huses
  | inserted _ _ _ _ => exact .of_ctx rfl
  | popped _ _ => cases huses
  | removed _ _ => exact .of_ctx rfl
  | pushed _ _ _ =>
    cases huses
    exact .updCtx rfl
  | poppedIfq _ _ _ _ =>
    cases huses
    exact .updCtx rfl
  | wroteWreg _ =>
    cases huses
    exact .updCtx rfl
  | setPc _ =>
    cases huses
    exact .updCtx rfl

end Sys2Proof.Machine

/-! PROOFS. What the driver dispatches between two points of a run, followed through every other command it sends. -/

namespace Sys2Proof.Machine

open Sys2Proof.Safety Sys2Proof.Config

/-! ### The slots behind the mark -/

/-- `L` are the live slots of the ROB behind slot `o`, or all of them where there is none. -/
def Behind (o : Option Nat) (x : Context) (L : List Nat) : Prop :=
  match o with
  | none => liveSlots x.robRing = L
  | some i => ∃ A, liveSlots x.robRing = A ++ i :: L

theorem Behind.mem {o : Option Nat} {x : Context} {L : List Nat} (h : Behind o x L) {i : Nat} (hi : i ∈ L) :
    i ∈ liveSlots x.robRing := by
  cases o with
  | none =>
    rw [h]
    exact hi
  | some j =>
    obtain ⟨A, hA⟩ := h
    rw [hA]
    exact List.mem_append_right _ (List.mem_cons_of_mem _ hi)

theorem Behind.before {o : Option Nat} {c : Nat} {s t : State} {L : List Nat} (h : KeepsWriters c s t)
    (hL : Behind o (t.ctx c) L) :
    ∃ P Q, Behind o (s.ctx c) (P ++ L ++ Q) ∧ ∀ i ∈ P ++ Q, ((s.ctx c).entry .rob i).physreg = none := by
  obtain ⟨A, B, hlive, hnone⟩ := h.slots
  cases o with
  | none =>
    refine ⟨A, B, ?_, hnone⟩
    rw [Behind, hlive, hL]
  | some i =>
    obtain ⟨A', hA'⟩ := hL
    refine ⟨[], B, ⟨A ++ A', ?_⟩, fun i hi => hnone i (List.mem_append_right _ hi)⟩
    rw [hlive, hA']
    simp only [List.append_assoc, List.nil_append, List.cons_append]

theorem Behind.of_push {o : Option Nat} {x y : Context} {L : List Nat} {i : Nat}
    (hlive : liveSlots y.robRing = liveSlots x.robRing ++ [i]) (ho : o ≠ some i) (hL : Behind o y L) :
    ∃ L', L = L' ++ [i] ∧ Behind o x L' := by
  cases o with
  | none => exact ⟨_, hL.symm.trans hlive, rfl⟩
  | some j =>
    obtain ⟨A, hA⟩ := hL
    rw [hlive] at hA
    obtain rfl | ⟨L', z, rfl⟩ := List.eq_nil_or_concat L
    · obtain ⟨_, heq⟩ := List.append_inj' hA rfl
      cases heq
      exact absurd rfl ho
    · rw [List.concat_eq_append, ← List.cons_append, ← List.append_assoc] at hA
      obtain ⟨hinit, heq⟩ := List.append_inj' hA rfl
      cases heq
      exact ⟨L', List.concat_eq_append .., A, hinit⟩

/-! ### The invariant of the run -/

/-- From `s`, whose ROB is marked at slot `o`, the driver's commands have led to `u` and dispatched the destinations `W`. -/
structure Tracks (c : Nat) (o : Option Nat) (s u : State) (W : List Entry) : Prop where
  sound : EngineSound u
  latch : u.latch.set = false
  cfg : u.cfg = s.cfg
  attached : (u.ctx c).attached = true
  core : (u.ctx c).core = (s.ctx c).core
  genLe : ∀ i, (s.ctx c).gen .rob i ≤ (u.ctx c).gen .rob i
  younger : ∀ L, Behind o (u.ctx c) L → (∀ i ∈ o, (u.ctx c).gen .rob i = (s.ctx c).gen .rob i) →
    writes (L.map ((u.ctx c).entry .rob)) = W
  free : ∀ b, ∀ p < s.cfg.prfBankSize, s.isFree (s.ctx c).core b p
    = (u.isFree (s.ctx c).core b p || W.any (fun e => e.owns b p))
  renameOf : ∀ a, (s.ctx c).renameOf a
    = ((firstWriter W a).bind (fun e => e.oldPhysreg)).getD ((u.ctx c).renameOf a)
  displaced : ∀ e ∈ W, e.oldPhysreg.isSome = true

theorem Tracks.refl {c : Nat} {o : Option Nat} {s : State} (h : EngineSound s) (hl : s.latch.set = false)
    (ha : (s.ctx c).attached = true)
    (hnone : ∀ L, Behind o (s.ctx c) L → writes (L.map ((s.ctx c).entry .rob)) = []) : Tracks c o s s [] where
  sound := h
  latch := hl
  cfg := rfl
  attached := ha
  core := rfl
  genLe _ := Nat.le_refl _
  younger L hL _ := hnone L hL
  free _ _ _ := (Bool.or_false _).symm
  renameOf _ := rfl
  displaced := nofun

theorem Tracks.at_now {c : Nat} {o : Option Nat} {s u : State} {W : List Entry} (h : Tracks c o s u W) (w : Word) :
    Tracks c o s { u with now := w } W :=
  ⟨h.sound.congr rfl rfl, h.latch, h.cfg, h.attached, h.core, h.genLe, h.younger, h.free, h.renameOf, h.displaced⟩

/-- A command other than a DISPATCH or a transfer of the context. -/
theorem Tracks.other {c : BitVec 8} {o : Option Nat} {s u v : State} {W : List Entry} {i : Instr}
    (h : Tracks c.toNat o s u W) (hc : c.toNat < s.cfg.numContexts) (hexec : exec i u = .next v)
    (hl : v.latch.set = false) (hfree : SameFree u v (u.ctx c.toNat).core)
    (hdispatch : ∀ p, i = .dispatch c p → ¬ AnswersOk v) (htransfer : ∀ k, i ≠ .transferContext c k) :
    Tracks c.toNat o s v W := by
  obtain ⟨v', r, hp, rfl⟩ := exec_performed hexec hl
  have hkeeps := hp.keepsWriters h.sound (h.cfg ▸ hc) h.attached hfree
    (fun p hi hr => hdispatch p hi (congrArg some hr)) htransfer
  have hwithin := hp.within
  constructor
  case sound => exact (hp.sound h.sound).congr rfl rfl
  case latch => exact hl
  case cfg => exact hwithin.cfg.trans h.cfg
  case attached => exact hkeeps.attached.trans h.attached
  case core => exact hkeeps.core.trans h.core
  case genLe => exact fun i => (h.genLe i).trans (hwithin.genLe c.toNat .rob i)
  case younger =>
    intro L hL hgen
    obtain ⟨P, Q, hbehind, hnone⟩ := hL.before hkeeps
    have hgen' : ∀ i ∈ o, (u.ctx c.toNat).gen .rob i = (s.ctx c.toNat).gen .rob i := fun i hi =>
      Nat.le_antisymm ((hwithin.genLe c.toNat .rob i).trans (hgen i hi).le) (h.genLe i)
    have hwritten := List.map_congr_left fun i hi => hkeeps.written i (hL.mem hi)
    rw [← h.younger _ hbehind hgen', List.map_append, List.map_append, writes_append, writes_append,
      writes_of_none (E := P.map _), writes_of_none (E := Q.map _), List.nil_append, List.append_nil, writes_eq_written,
      writes_eq_written, List.map_map, List.map_map]
    · exact congrArg (List.filter _) hwritten
    · simpa using fun i hi => hnone i (List.mem_append_right _ hi)
    · simpa using fun i hi => hnone i (List.mem_append_left _ hi)
  case free =>
    intro b p hp
    rw [h.free b p hp, ← h.core]
    exact congrArg (· || _) (hfree b (mem_everyBank b) p (h.cfg ▸ hp)).symm
  case renameOf => exact fun a => (h.renameOf a).trans (by rw [← hkeeps.renameOf]; rfl)
  case displaced => exact h.displaced

theorem firstWriter_append (E F : List Entry) (a : Nat) :
    firstWriter (E ++ F) a = (firstWriter E a).or (firstWriter F a) := List.find?_append

theorem FedStep.isFree {c : BitVec 8} {f : Fed} {s u : State} (h : FedStep c f s u) (b : Bank) (p : Nat) :
    s.isFree (s.ctx c.toNat).core b p = (u.isFree (s.ctx c.toNat).core b p || (fedEntry c f s).owns b p) := by
  cases hown : (fedEntry c f s).owns b p with
  | true =>
    obtain ⟨hfree, _⟩ := h.taken b p (Entry.owns_iff.mp hown)
    rw [State.isFree, hfree, Bool.or_true]
    rfl
  | false =>
    have hsame := h.reg (s.ctx c.toNat).core b p fun hno => by
      rw [Entry.owns_iff.mpr hno.2] at hown
      cases hown
    rw [State.isFree, State.isFree, hsame, Bool.or_false]

/-- The mapping of a register before one DISPATCH. -/
theorem FedStep.renameOf {c : BitVec 8} {f : Fed} {s u : State} (h : FedStep c f s u) (a : Nat) :
    (s.ctx c.toNat).renameOf a
      = ((firstWriter [fedEntry c f s] a).bind (fun e => e.oldPhysreg)).getD ((u.ctx c.toNat).renameOf a) := by
  rw [firstWriter_singleton]
  split
  next hw =>
    obtain ⟨rfl, hsome⟩ := hw
    obtain ⟨q, hq⟩ := Option.isSome_iff_exists.mp hsome
    rw [Option.bind_some, h.link q hq, Option.getD_some]
  next hw => exact (h.rename a fun ⟨harch, hsome⟩ => hw ⟨harch.symm, hsome⟩).symm

/-- An instruction of the context. -/
theorem Tracks.fed {c : BitVec 8} {o : Option Nat} {s u v : State} {W : List Entry} {f : Fed}
    (h : Tracks c.toNat o s u W) (hc : c.toNat < s.cfg.numContexts) (hstep : FedStep c f u v) :
    Tracks c.toNat o s v (W ++ writes [fedEntry c f u]) := by
  have hring := (h.sound.ctx _ (h.cfg ▸ hc)).rings.1
  have htail := tail_not_mem_liveSlots hring hstep.room
  have hlive : liveSlots (v.ctx c.toNat).robRing = liveSlots (u.ctx c.toNat).robRing ++ [(u.ctx c.toNat).robRing.tail] := by
    rw [hstep.robRing, liveSlots_pushTail hring]
  have hgenLe : ∀ i, (u.ctx c.toNat).gen .rob i ≤ (v.ctx c.toNat).gen .rob i := fun i => by
    rw [hstep.gen]
    split
    next heq => exact heq ▸ Nat.le_succ _
    · exact Nat.le_refl _
  constructor
  case sound => exact hstep.sound
  case latch => exact hstep.latch
  case cfg => exact hstep.cfg.trans h.cfg
  case attached => exact hstep.attached
  case core => exact hstep.core.trans h.core
  case genLe => exact fun i => (h.genLe i).trans (hgenLe i)
  case younger =>
    intro L hL hgen
    have hgen' : ∀ i ∈ o, (u.ctx c.toNat).gen .rob i = (s.ctx c.toNat).gen .rob i := fun i hi =>
      Nat.le_antisymm ((hgenLe i).trans (hgen i hi).le) (h.genLe i)
    have ho : o ≠ some (u.ctx c.toNat).robRing.tail := fun ho => by
      have hnew := hgen _ ho
      rw [hstep.gen, if_pos rfl, hgen' _ ho] at hnew
      exact Nat.succ_ne_self _ hnew
    obtain ⟨L', rfl, hL'⟩ := hL.of_push hlive ho
    have hsame : L'.map ((v.ctx c.toNat).entry .rob) = L'.map ((u.ctx c.toNat).entry .rob) :=
      List.map_congr_left fun i hi => by
        have hne : i ≠ (u.ctx c.toNat).robRing.tail := fun heq => htail (heq ▸ hL'.mem hi)
        rw [hstep.entry, if_neg hne]
    rw [List.map_append, writes_append, hsame, h.younger L' hL' hgen', List.map_singleton, hstep.entry, if_pos rfl]
  case free =>
    intro b p hp
    rw [h.free b p hp, ← h.core, hstep.isFree, List.any_append, any_owns_writes, List.any_cons, List.any_nil, Bool.or_false,
      Bool.or_assoc, Bool.or_comm (Entry.owns _ _ _)]
  case renameOf =>
    intro a
    rw [h.renameOf a, hstep.renameOf a, firstWriter_append, firstWriter_writes]
    cases hw : firstWriter W a with
    | none => cases firstWriter [fedEntry c f u] a <;> rfl
    | some e =>
      obtain ⟨old, hold⟩ := Option.isSome_iff_exists.mp (h.displaced e (List.mem_of_find?_eq_some hw))
      simp [hold]
  case displaced =>
    intro e he
    obtain he | he := List.mem_append.mp he
    · exact h.displaced e he
    · obtain ⟨e', he', rfl⟩ := List.mem_map.mp he
      obtain ⟨hmem, hsome⟩ := List.mem_filter.mp he'
      obtain rfl := List.mem_singleton.mp hmem
      obtain ⟨q, hq⟩ := Option.isSome_iff_exists.mp hsome
      exact congrArg Option.isSome (hstep.link q hq)

/-- The oldest of the instructions that writes architected register `a`. -/
def oldestWriter (cfg : Params) (l : List Fed) (a : Nat) : Option Fed :=
  l.find? (fun f => decide ((classify cfg f.2.1.opcode).dest ≠ .none) && decide (f.2.1.archreg.toNat = a))

/-- The shadow value of a register in the entry of an instruction. -/
theorem FedStep.shadowValue {c : BitVec 8} {f : Fed} {s u : State} (h : FedStep c f s u) (a : Nat) :
    (firstWriter (writes [fedEntry c f s]) a).map (fun e => e.shadowValue)
      = (oldestWriter s.cfg [f] a).map (fun f => f.2.1.shadowValue) := by
  rw [firstWriter_writes, firstWriter_singleton, oldestWriter, List.find?_singleton]
  by_cases hdest : (classify s.cfg f.2.1.opcode).dest = .none
  · have hno : ¬(fedEntry c f s).physreg.isSome = true := fun hw => h.isWriter.mp hw hdest
    rw [if_neg fun hw => hno hw.2, hdest]
    rfl
  · have hshadow : (fedEntry c f s).shadowValue = f.2.1.shadowValue := if_neg hdest
    rw [h.archreg hdest]
    by_cases ha : a = f.2.1.archreg.toNat
    · rw [if_pos ⟨ha, h.isWriter.mpr hdest⟩]
      simp [hdest, ha, Entry.written, hshadow]
    · rw [if_neg fun hw => ha hw.1]
      simp [Ne.symm ha]

/-- What a run dispatches is tracked to its end, each register with the shadow value of its oldest writer. -/
theorem Tracks.sends {c : BitVec 8} {o : Option Nat} {s t : State} : ∀ {l : List Sent} {u : State} {W : List Entry},
    Tracks c.toNat o s u W → c.toNat < s.cfg.numContexts → Sends c l u t →
    ∃ W', Tracks c.toNat o s t (W ++ W') ∧ ∀ a, (firstWriter W' a).map (fun e => e.shadowValue)
      = (oldestWriter s.cfg (fedOf l) a).map (fun f => f.2.1.shadowValue) := by
  intro l
  induction l with
  | nil =>
    intro u W h _ hsends
    cases hsends
    exact ⟨[], by rwa [List.append_nil], fun _ => rfl⟩
  | cons v l ih =>
    intro u W h hc hsends
    cases v with
    | fed f =>
      obtain ⟨u', hone, hsends⟩ := hsends
      have hstep := fedStep h.sound h.latch hone
      obtain ⟨W', hW', hshadow⟩ := ih (h.fed hc hstep) hc hsends
      refine ⟨writes [fedEntry c f u] ++ W', by rwa [← List.append_assoc], fun a => ?_⟩
      have hfirst := hstep.shadowValue a
      rw [h.cfg] at hfirst
      have hfed : fedOf (.fed f :: l) = [f] ++ fedOf l := rfl
      rw [firstWriter_append, hfed, oldestWriter, List.find?_append, Option.map_or, Option.map_or]
      exact congrArg₂ Option.or hfirst (hshadow a)
    | other w i =>
      obtain ⟨u', hexec, hl, hfree, hdispatch, htransfer, hsends⟩ := hsends
      obtain ⟨W', hW', hshadow⟩ := ih ((h.at_now w).other hc hexec hl hfree hdispatch htransfer) hc hsends
      exact ⟨W', hW', hshadow⟩

end Sys2Proof.Machine

/-! PROOFS. Squashing what was dispatched: the FREE set and the rename table are as before the dispatches (43_rollback.md R264). -/

namespace Sys2Proof.Machine

open Sys2Proof.Safety Sys2Proof.Config

/-! ### ROLLBACK_TO and FLUSH_CONTEXT as one squash -/

theorem Redirected.answer {c n : Nat} {s t : State} (h : Redirected c n s t) (r : Response) : Redirected c n s (t.answer r) :=
  ⟨h.ctx_ne, h.core, h.rename, h.wreg, h.attached, h.ctxCore, h.slot, h.gen, h.env, h.nextSeq, h.cfg, h.latch, h.port, h.now⟩

/-- A command of context `c` has answered OK and squashed the `n` youngest instructions. -/
structure CutBack (c n : Nat) (s t : State) : Prop where
  ok : AnswersOk t
  undone : Undone c n s t
  liveRob : liveEntries (t.ctx c) .rob = (liveEntries (s.ctx c) .rob).take ((s.ctx c).robRing.num - n)
  liveLsq : liveEntries (t.ctx c) .lsq
    = (liveEntries (s.ctx c) .lsq).take ((s.ctx c).lsqRing.num - squashedMems (s.ctx c) n)
  icount : (t.ctx c).icount = (s.ctx c).icount - squashedInIq (s.ctx c) n

section Commands

variable {s : State} {c : BitVec 8} (h : EngineSound s) (hl : s.latch.set = false) (hc : c.toNat < s.cfg.numContexts)

include h hl hc

theorem rollbackTo_cutBack {m : Bool} {slot gen : Word} (hlive : s.live c.toNat .rob slot.toNat gen.toNat = true)
    (haccepts : Accepts s (undoneStores (s.ctx c.toNat) (youngerCount (s.ctx c.toNat) slot.toNat)).length) :
    ∃ s1 t, exec (.rollbackTo c m slot gen) s = .next t ∧ CutBack c.toNat (youngerCount (s.ctx c.toNat) slot.toNat) s t
      ∧ Squashed c.toNat (youngerCount (s.ctx c.toNat) slot.toNat) s s1 ∧ EngineSound s1
      ∧ (t.ctx c.toNat).robRing = (s1.ctx c.toNat).robRing ∧ (t.ctx c.toNat).lsqRing = (s1.ctx c.toNat).lsqRing := by
  obtain ⟨ha, _⟩ := h.mem_liveSlots_of_live hc hlive
  have hn := youngerCount_le (s.ctx c.toNat) slot.toNat
  obtain ⟨s1, hs1, hsquashed⟩ := h.squashMany_accepted hc ha hn haccepts
  have hctx := afterRollback_ctx_same c.toNat slot.toNat (youngerCount (s.ctx c.toNat) slot.toNat) m s1
  exact ⟨s1, _, exec_rollbackTo_ok hl hc hlive hs1,
    ⟨rfl, hsquashed.undone ((redirected_afterRollback c.toNat slot.toNat _ m s1).answer _),
      (congrArg (liveEntries · .rob) hctx).trans hsquashed.liveRob, (congrArg (liveEntries · .lsq) hctx).trans hsquashed.liveLsq,
      (congrArg Context.icount hctx).trans hsquashed.icount⟩,
    hsquashed, h.squashMany hc ha hn hs1, (congrArg Context.robRing hctx :), (congrArg Context.lsqRing hctx :)⟩

theorem flushContext_cutBack (ha : (s.ctx c.toNat).attached = true)
    (haccepts : Accepts s (undoneStores (s.ctx c.toNat) (s.ctx c.toNat).robRing.num).length) :
    ∃ t, exec (.flushContext c) s = .next t ∧ CutBack c.toNat (s.ctx c.toNat).robRing.num s t := by
  obtain ⟨s1, hsquashed, hrob, hlsq, hsound, hflush⟩ := h.flushBody_accepted hc ha haccepts
  have hctx := flushFinish_ctx_same c.toNat (s.ctx c.toNat).robRing.num (flushPc (s.ctx c.toNat)) s1
  have hicount := icount_of_empty hsound (hsquashed.frame.cfg ▸ hc) hrob
  refine ⟨_, exec_flushContext_ok hl hc ha hflush, rfl,
    hsquashed.undone ((redirected_flushFinish c.toNat _ (flushPc (s.ctx c.toNat)) s1).answer _), ?_, ?_, ?_⟩
  · rw [← hsquashed.liveRob, liveEntries_of_num_eq_zero (b := .rob) hrob]
    exact (congrArg (liveEntries · .rob) hctx).trans (liveEntries_of_num_eq_zero rfl)
  · rw [← hsquashed.liveLsq, liveEntries_of_num_eq_zero (b := .lsq) hlsq]
    exact (congrArg (liveEntries · .lsq) hctx).trans (liveEntries_of_num_eq_zero rfl)
  · rw [← hsquashed.icount, hicount]
    exact (congrArg Context.icount hctx :)

end Commands

/-! ### The squash of what a run dispatched -/

theorem firstWriter_bind_writes (E : List Entry) (a : Nat) :
    (firstWriter (writes E) a).bind (fun e => e.oldPhysreg) = (firstWriter E a).bind (fun e => e.oldPhysreg) := by
  rw [firstWriter_writes, Option.bind_map]
  rfl

theorem firstWriter_shadow_writes (E : List Entry) (a : Nat) :
    (firstWriter (writes E) a).map (fun e => e.shadowValue) = (firstWriter E a).map (fun e => e.shadowValue) := by
  rw [firstWriter_writes, Option.map_map]
  rfl

/-- Squashing exactly the writers that a run dispatched undoes them. -/
theorem Tracks.conserved {c n : Nat} {o : Option Nat} {s u t : State} {W : List Entry} {l : List Sent} (h : Tracks c o s u W)
    (hwrites : writes (squashed (u.ctx c) n) = W) (hcut : CutBack c n u t)
    (hshadow : ∀ a, (firstWriter W a).map (fun e => e.shadowValue)
      = (oldestWriter s.cfg (fedOf l) a).map (fun f => f.2.1.shadowValue)) : Conserved s u t c l := by
  subst hwrites
  obtain ⟨hregs, hrename⟩ := hcut.undone.regs
  refine ⟨fun b _ p hp => ?_, fun a => ?_, fun a => ?_⟩
  · rw [h.free b p hp, any_owns_writes, State.isFree, hregs, h.core]
    cases hown : (squashed (u.ctx c) n).any (fun e => e.owns b p) with
    | true =>
      rw [if_pos ⟨rfl, hown⟩, Bool.or_true]
      rfl
    | false =>
      rw [if_neg fun hno => Bool.false_ne_true (hown.symm.trans hno.2), Bool.or_false]
      rfl
  · rw [h.renameOf, firstWriter_bind_writes, hrename]
  · rw [hcut.undone.wregs, ← firstWriter_shadow_writes, hshadow]
    rfl

/-! ### The mark of a rollback -/

/-- The slots before slot `i` are as many as its position says. -/
theorem length_before {r : Ring} (h : RingOk r) {A L : List Nat} {i : Nat} (hlive : liveSlots r = A ++ i :: L) :
    A.length = r.pos i := by
  have hlt : A.length < r.num := by
    have hlen := congrArg List.length hlive
    rw [liveSlots_length, List.length_append, List.length_cons] at hlen
    omega
  have hi : (liveSlots r)[A.length]? = some i := by
    rw [hlive, List.getElem?_append_right (Nat.le_refl _), Nat.sub_self]
    rfl
  rw [liveSlots, List.getElem?_map, List.getElem?_range hlt] at hi
  rw [← Option.some.inj hi, Ring.pos_slot h hlt]

/-- Behind the youngest entry there is nothing. -/
theorem behind_youngest {x : Context} (h : RingOk x.robRing) {i : Nat} (hlast : x.robRing.pos i + 1 = x.robRing.num)
    {L : List Nat} (hL : Behind (some i) x L) : L = [] := by
  obtain ⟨A, hA⟩ := hL
  have hlen := congrArg List.length hA
  rw [liveSlots_length, List.length_append, List.length_cons, length_before h hA] at hlen
  exact List.length_eq_zero_iff.mp (by omega)

/-- Behind the target of a rollback is what it squashes. -/
theorem behind_target {x : Context} (h : RingOk x.robRing) {i : Nat} (hi : i ∈ liveSlots x.robRing) :
    Behind (some i) x (squashedSlots x (youngerCount x i) .rob) := by
  obtain ⟨A, L, hA⟩ := List.append_of_mem hi
  have hpos := length_before h hA
  have hlen := congrArg List.length hA
  rw [liveSlots_length, List.length_append, List.length_cons] at hlen
  have hkept : x.robRing.num - youngerCount x i = A.length + 1 := by
    rw [youngerCount]
    omega
  refine ⟨A, ?_⟩
  rw [squashedSlots, hkept, hA, List.drop_append, List.drop_eq_nil_of_le (Nat.le_succ _), Nat.add_sub_cancel_left]
  rfl

theorem squashed_eq_map (x : Context) (n : Nat) : squashed x n = (squashedSlots x n .rob).map (x.entry .rob) := by
  rw [squashed, liveEntries, squashedSlots, List.map_drop]
  rfl

/-! ### A run of nothing but DISPATCHes -/

theorem sends_fed_iff {c : BitVec 8} : ∀ {fs : List Fed} {s t : State}, Sends c (fs.map Sent.fed) s t ↔ dispatchAll c fs s = some t := by
  intro fs
  induction fs with
  | nil => exact fun {s t} => ⟨fun h => congrArg some (Eq.symm h), fun h => (Option.some.inj h).symm⟩
  | cons f fs ih =>
    intro s t
    rw [dispatchAll]
    constructor
    · rintro ⟨u, hone, h⟩
      rw [hone]
      exact ih.mp h
    · intro h
      split at h
      · cases h
      next u hone => exact ⟨u, hone, ih.mpr h⟩

theorem fedOf_map_fed (fs : List Fed) : fedOf (fs.map Sent.fed) = fs := by
  rw [fedOf, List.filterMap_map]
  exact List.filterMap_some

/-- Two buffers of one capacity with the same head and as many entries are the same. -/
theorem ring_eq_of_ringOk {r r' : Ring} (h : RingOk r) (h' : RingOk r') (hhead : r.head = r'.head) (hnum : r.num = r'.num)
    (hcap : r.cap = r'.cap) : r = r' := by
  obtain ⟨_, _, htail⟩ := h
  obtain ⟨_, _, htail'⟩ := h'
  rw [hhead, hnum, hcap, ← htail'] at htail
  cases r
  cases r'
  cases hhead
  cases hnum
  cases hcap
  cases htail
  rfl

section Run

variable {c : BitVec 8} {s u : State} {E M : List Entry} (h : FedRun c s u E M)

include h

theorem FedRun.robNum : (u.ctx c.toNat).robRing.num = (s.ctx c.toNat).robRing.num + E.length := by
  have hlen := congrArg List.length h.liveRob
  rwa [List.length_append, liveEntries_length, liveEntries_length] at hlen

theorem FedRun.lsqNum : (u.ctx c.toNat).lsqRing.num = (s.ctx c.toNat).lsqRing.num + M.length := by
  have hlen := congrArg List.length h.liveLsq
  rwa [List.length_append, liveEntries_length, liveEntries_length] at hlen

theorem FedRun.squashed : Safety.squashed (u.ctx c.toNat) E.length = E := by
  rw [Safety.squashed, h.robNum, Nat.add_sub_cancel, h.liveRob]
  exact List.drop_left' (liveEntries_length _ .rob)

theorem FedRun.squashedMems : Safety.squashedMems (u.ctx c.toNat) E.length = M.length := by
  rw [Safety.squashedMems, h.squashed, h.mems]

theorem FedRun.squashedInIq : Safety.squashedInIq (u.ctx c.toNat) E.length = (E.filter (fun e => e.inIq)).length := by
  rw [Safety.squashedInIq, h.squashed]

/-- The squash of a run of dispatches gives back everything they took. -/
theorem FedRun.runUndone {t : State} {fs : List Fed} {l : List Sent} (hl : fedOf l = fs)
    (hcut : CutBack c.toNat E.length u t) (hconserved : Conserved s u t c.toNat l) : RunUndone s t c.toNat fs := by
  obtain ⟨hregs, _⟩ := hcut.undone.regs
  obtain ⟨hiq, _⟩ := hcut.undone.queues
  obtain ⟨_, hglobal, hinsn, _⟩ := hcut.undone.memory
  obtain ⟨_, _, hwregs⟩ := hconserved
  refine ⟨fun k b p => ?_, fun a => ?_, fun b => ?_, ?_, fun k => ?_, ?_, fun j => ?_,
    fun j hj => (hcut.undone.ctx_ne j hj).trans (h.ctx_ne j hj)⟩
  · rw [hregs, h.squashed, h.core]
    split
    next hown =>
      obtain ⟨rfl, hown⟩ := hown
      exact (h.free b p hown).symm
    next hown => exact (h.state k b p).trans (if_neg hown)
  · rw [hwregs, hl, Context.wregOf, h.wreg]
    rfl
  · cases b with
    | rob =>
      rw [hcut.liveRob, h.robNum, Nat.add_sub_cancel, h.liveRob]
      exact List.take_left' (liveEntries_length _ .rob)
    | lsq =>
      rw [hcut.liveLsq, h.squashedMems, h.lsqNum, Nat.add_sub_cancel, h.liveLsq]
      exact List.take_left' (liveEntries_length _ .lsq)
  · rw [hcut.icount, h.squashedInIq, h.icount, Nat.add_sub_cancel]
  · rw [hiq, h.squashedInIq, h.iqCount, h.core, Nat.add_sub_cancel]
  · rw [hglobal, h.insnGlobal, Int.add_sub_cancel]
  · rw [hinsn, h.insn]
    split <;> omega

theorem FedRun.youngerCount {i : Nat} (hlast : (s.ctx c.toNat).robRing.pos i + 1 = (s.ctx c.toNat).robRing.num) :
    Machine.youngerCount (u.ctx c.toNat) i = E.length := by
  have hpos : (u.ctx c.toNat).robRing.pos i = (s.ctx c.toNat).robRing.pos i := by
    rw [Ring.pos, h.robHead, h.robCap]
    rfl
  rw [Machine.youngerCount, h.robNum, hpos]
  omega

/-- What was live before the run is live after it. -/
theorem FedRun.live {i g : Nat} (hs : EngineSound s) (hc : c.toNat < s.cfg.numContexts)
    (hlive : s.live c.toNat .rob i g = true) : u.live c.toNat .rob i g = true := by
  obtain ⟨_, hi, hg⟩ := (live_iff_mem (b := .rob) (hs.ctx _ hc).rings.1).mp hlive
  obtain ⟨l, hl⟩ := h.slots
  refine (live_iff_mem (b := .rob) (h.sound.ctx _ (h.cfg ▸ hc)).rings.1).mpr ⟨h.attached, ?_, ?_⟩
  · rw [Context.ring_rob, hl]
    exact List.mem_append_left _ hi
  · rw [hg, h.gen i hi]

/-- The buffers after the squash of the run are those before it. -/
theorem FedRun.rings {v : State} (hs : EngineSound s) (hc : c.toNat < s.cfg.numContexts) (hv : EngineSound v)
    (hsquashed : Squashed c.toNat E.length u v) :
    (v.ctx c.toNat).robRing = (s.ctx c.toNat).robRing ∧ (v.ctx c.toNat).lsqRing = (s.ctx c.toNat).lsqRing := by
  obtain ⟨hrob, hlsq, _⟩ := (hs.ctx _ hc).rings
  have hcv : c.toNat < v.cfg.numContexts := by rwa [hsquashed.frame.cfg, h.cfg]
  obtain ⟨hrob', hlsq', _⟩ := (hv.ctx _ hcv).rings
  have hstill := hsquashed.frame.ctx
  refine ⟨ring_eq_of_ringOk hrob' hrob ((congrArg (fun x : Context => x.robRing.head) hstill :).trans h.robHead) ?_
      ((congrArg (fun x : Context => x.robRing.cap) hstill :).trans h.robCap),
    ring_eq_of_ringOk hlsq' hlsq ((congrArg (fun x : Context => x.lsqRing.head) hstill :).trans h.lsqHead) ?_
      ((congrArg (fun x : Context => x.lsqRing.cap) hstill :).trans h.lsqCap)⟩
  · rw [hsquashed.robNum, h.robNum, Nat.add_sub_cancel]
  · rw [hsquashed.lsqNum, h.squashedMems, h.lsqNum, Nat.add_sub_cancel]

theorem FedRun.at_now (w : Word) : FedRun c s { u with now := w } E M :=
  ⟨h.sound.congr rfl rfl, h.latch, h.cfg, h.attached, h.core, h.slots, h.gen, h.liveRob, h.liveLsq, h.mems, h.robHead, h.robCap,
    h.lsqHead, h.lsqCap, h.wreg, h.icount, h.iqCount, h.state, h.free, h.insnGlobal, h.insn, h.ctx_ne⟩

end Run

/-! ### The two squashes at the end of a run -/

section Ends

variable {s u : State} {c : BitVec 8} {W : List Entry} {l : List Sent} (hs : EngineSound s) (hc : c.toNat < s.cfg.numContexts)
  (hshadow : ∀ a, (firstWriter W a).map (fun e => e.shadowValue)
    = (oldestWriter s.cfg (fedOf l) a).map (fun f => f.2.1.shadowValue))

include hc hshadow

include hs in
theorem Tracks.rollback {m : Bool} {slot gen : Word} (h : Tracks c.toNat (some slot.toNat) s u W)
    (hlive : s.live c.toNat .rob slot.toNat gen.toNat = true) (hlive' : u.live c.toNat .rob slot.toNat gen.toNat = true)
    (haccepts : Accepts u (undoneStores (u.ctx c.toNat) (youngerCount (u.ctx c.toNat) slot.toNat)).length) :
    ∃ v t, exec (.rollbackTo c m slot gen) u = .next t ∧ CutBack c.toNat (youngerCount (u.ctx c.toNat) slot.toNat) u t
      ∧ Conserved s u t c.toNat l ∧ Squashed c.toNat (youngerCount (u.ctx c.toNat) slot.toNat) u v ∧ EngineSound v
      ∧ (t.ctx c.toNat).robRing = (v.ctx c.toNat).robRing ∧ (t.ctx c.toNat).lsqRing = (v.ctx c.toNat).lsqRing := by
  have hcu : c.toNat < u.cfg.numContexts := h.cfg ▸ hc
  have hring := (h.sound.ctx _ hcu).rings.1
  obtain ⟨_, _, hgen⟩ := (live_iff_mem (b := .rob) (hs.ctx _ hc).rings.1).mp hlive
  obtain ⟨_, hi, hgen'⟩ := (live_iff_mem (b := .rob) hring).mp hlive'
  obtain ⟨v, t, hexec, hcut, hrest⟩ := rollbackTo_cutBack (m := m) h.sound h.latch hcu hlive' haccepts
  have hyounger := h.younger _ (behind_target hring hi) fun j hj => by
    cases hj
    exact hgen'.symm.trans hgen
  rw [← squashed_eq_map] at hyounger
  exact ⟨v, t, hexec, hcut, h.conserved hyounger hcut hshadow, hrest⟩

theorem Tracks.flush (h : Tracks c.toNat none s u W)
    (haccepts : Accepts u (undoneStores (u.ctx c.toNat) (u.ctx c.toNat).robRing.num).length) :
    ∃ t, exec (.flushContext c) u = .next t ∧ CutBack c.toNat (u.ctx c.toNat).robRing.num u t ∧ Conserved s u t c.toNat l := by
  obtain ⟨t, hexec, hcut⟩ := flushContext_cutBack h.sound h.latch (h.cfg ▸ hc) h.attached haccepts
  have hall : squashedSlots (u.ctx c.toNat) (u.ctx c.toNat).robRing.num .rob = liveSlots (u.ctx c.toNat).robRing := by
    rw [squashedSlots, Nat.sub_self, List.drop_zero]
  have hyounger := h.younger _ hall.symm nofun
  rw [← squashed_eq_map] at hyounger
  exact ⟨t, hexec, hcut, h.conserved hyounger hcut hshadow⟩

end Ends

/-- Settles O43: what was dispatched is followed through the run (`Tracks`), and the squash in closed form takes back just that;
a run of nothing but DISPATCHes (`FedRun`) gives back the rest too. -/
theorem rollbackUndoesDispatches : Obligations.RollbackUndoesDispatches := by
  intro s s1 c l hengine hl hc ha hsends x y
  have hs := (engineOk_iff s).mp hengine
  have hring := (hs.ctx _ hc).rings.1
  constructor
  · intro m slot gen w hlive hlast hlive1 haccepts
    obtain ⟨W, htracks, hshadow⟩ := (Tracks.refl (o := some slot.toNat) hs hl ha fun L hL => by
      rw [behind_youngest hring hlast hL]
      rfl).sends hc hsends
    have hrun : ∀ fs : List Fed, l = fs.map Sent.fed → ∃ E M, FedRun c s { s1 with now := w } E M := by
      rintro fs rfl
      obtain ⟨E, M, _, hrun⟩ := fedRun hs hl hc ha (sends_fed_iff.mp hsends)
      exact ⟨E, M, hrun.at_now w⟩
    have hlive2 : State.live { s1 with now := w } c.toNat .rob slot.toNat gen.toNat = true := by
      obtain ⟨fs, hfs⟩ | hlive1 := hlive1
      · obtain ⟨E, M, hrun⟩ := hrun fs hfs
        exact hrun.live hs hc hlive
      · exact hlive1
    obtain ⟨v, t, hexec, hcut, hconserved, hsquashed, hv, hrob, hlsq⟩ :=
      (htracks.at_now w).rollback (m := m) hs hc hshadow hlive hlive2 haccepts
    refine ⟨t, hexec, hcut.ok, hconserved, fun fs hfs => ?_⟩
    obtain ⟨E, M, hrun⟩ := hrun fs hfs
    rw [hrun.youngerCount hlast] at hcut hsquashed
    obtain ⟨hrob', hlsq'⟩ := hrun.rings hs hc hv hsquashed
    exact ⟨hrun.runUndone (by rw [hfs, fedOf_map_fed]) hcut hconserved, hrob.trans hrob', hlsq.trans hlsq'⟩
  · intro hnone w haccepts
    obtain ⟨W, htracks, hshadow⟩ := (Tracks.refl (o := none) hs hl ha fun L hL => by
      rw [← show liveSlots x.robRing = L from hL]
      exact writes_of_none hnone).sends hc hsends
    obtain ⟨t, hexec, hcut, hconserved⟩ := (htracks.at_now w).flush hc hshadow haccepts
    refine ⟨t, hexec, hcut.ok, hconserved, fun hempty fs hfs => ?_⟩
    subst hfs
    obtain ⟨E, M, _, hrun⟩ := fedRun hs hl hc ha (sends_fed_iff.mp hsends)
    have hrun := hrun.at_now w
    rw [hrun.robNum, hempty, Nat.zero_add] at hcut
    exact hrun.runUndone (fedOf_map_fed fs) hcut hconserved

end Sys2Proof.Machine

/-! PROOFS. Memory after a run of stores and the squash that replays their shadows (20_memory.md section 4). -/

namespace Sys2Proof.Machine

open Sys2Proof.Safety Sys2Proof.Config

/-! ### Memory as a sequence of writes -/

/-- Memory after a list of writes, each the bytes from an address on. -/
def Memory.writeAll (m : Memory) (l : List (Word × List Byte)) : Memory := l.foldl (fun m r => m.writeBytes r.1 r.2) m

theorem Memory.writeAll_append (m : Memory) (l l' : List (Word × List Byte)) :
    m.writeAll (l ++ l') = (m.writeAll l).writeAll l' := List.foldl_append

/-- What the replay of a store writes. -/
def Entry.replay (e : Entry) : Word × List Byte := (e.memAddr, bytesOf e.shadowMem e.memSize.toNat)

theorem replayed_eq_writeAll : ∀ (l : List Entry) (m : Memory), replayed m l = m.writeAll (l.map Entry.replay) := by
  intro l
  induction l with
  | nil => exact fun _ => rfl
  | cons e l ih => exact fun m => ih _

/-- What the replay of an instruction's store writes. -/
def fedReplay (f : Fed) : Word × List Byte := (f.2.1.memAddr, bytesOf f.2.1.shadowMem f.2.1.memSize.toNat)

/-- What the replays of a run's stores write, oldest first. -/
def fedReplays (cfg : Params) (l : List Fed) : List (Word × List Byte) :=
  (l.filter (fun f => (classify cfg f.2.1.opcode).isStore)).map fedReplay

theorem fedReplays_cons_of_store {cfg : Params} {f : Fed} (h : (classify cfg f.2.1.opcode).isStore = true) (l : List Fed) :
    fedReplays cfg (f :: l) = fedReplay f :: fedReplays cfg l :=
  congrArg (List.map fedReplay) (List.filter_cons_of_pos (p := fun f : Fed => (classify cfg f.2.1.opcode).isStore) h)

theorem fedReplays_cons_of_not_store {cfg : Params} {f : Fed} (h : ¬ (classify cfg f.2.1.opcode).isStore = true) (l : List Fed) :
    fedReplays cfg (f :: l) = fedReplays cfg l :=
  congrArg (List.map fedReplay) (List.filter_cons_of_neg (p := fun f : Fed => (classify cfg f.2.1.opcode).isStore) h)

/-- What the executor writes in a run. -/
def fedWrites (l : List Fed) : List (Word × List Byte) := l.map (fun f => (f.2.1.memAddr, f.2.2))

/-! ### The replays take the writes back -/

theorem getElem?_bytesOf {w : Word} {n k : Nat} (hk : k < n) : (bytesOf w n)[k]? = some (w.extractLsb' (8 * k) 8) := by
  rw [bytesOf, List.getElem?_map, List.getElem?_range hk]
  rfl

/-- If each store's shadow is what memory held, its replay restores every byte that was known and every byte it does not
cover. -/
theorem read_writeAll_replays {cfg : Params} {a : Nat} : ∀ {l : List Fed} {m : Memory}, captured cfg m l →
    (m.read a ≠ none ∨ ¬ storesTo cfg l a) →
    ((m.writeAll (fedWrites l)).writeAll (fedReplays cfg l).reverse).read a = m.read a := by
  intro l
  induction l with
  | nil => exact fun _ _ => rfl
  | cons f l ih =>
    obtain ⟨now, p, bytes⟩ := f
    rintro m ⟨hcaptured, hrest⟩ ha
    have hrestored := fun h => ih hrest h
    have hlater : ¬ storesTo cfg ((now, p, bytes) :: l) a → ¬ storesTo cfg l a := fun h hl => by
      obtain ⟨f, hf, hstores⟩ := hl
      exact h ⟨f, List.mem_cons_of_mem _ hf, hstores⟩
    change (((m.writeBytes p.memAddr bytes).writeAll (fedWrites l)).writeAll _).read a = _
    by_cases hstore : (classify cfg p.opcode).isStore = true
    · rw [if_pos hstore] at hcaptured
      obtain ⟨hlen, hshadow⟩ := hcaptured
      rw [fedReplays_cons_of_store hstore, List.reverse_cons, Memory.writeAll_append]
      change (Memory.writeBytes _ p.memAddr (bytesOf p.shadowMem p.memSize.toNat)).read a = _
      by_cases hcovers : covers p.memAddr p.memSize.toNat a
      · have hknown := ha.resolve_right fun h => h ⟨_, List.mem_cons_self, hstore, hcovers⟩
        obtain ⟨v, hv⟩ := Option.ne_none_iff_exists'.mp hknown
        obtain ⟨k, hk, rfl⟩ := hcovers
        rw [Memory.read_writeBytes_inside _ _ _ (by rw [bytesOf_length]; exact p.memSize.isLt.le) k (by rwa [bytesOf_length]),
          getElem?_bytesOf hk, hv, hshadow k (hlen ▸ hk) v hv]
      · have hfirst : (m.writeBytes p.memAddr bytes).read a = m.read a :=
          Memory.read_writeBytes_of_not_covers m (by rwa [hlen])
        rw [Memory.read_writeBytes_of_not_covers _ (by rwa [bytesOf_length]), hrestored, hfirst]
        rw [hfirst]
        exact ha.imp_right hlater
    · rw [if_neg hstore] at hcaptured
      subst hcaptured
      rw [fedReplays_cons_of_not_store hstore]
      exact hrestored (ha.imp_right hlater)

/-! ### The stores of a run -/

theorem toNat_setWidth_of_sizeLegal {n : Word} (h : sizeLegal n = true) : (n.setWidth 4).toNat = n.toNat := by
  simp only [sizeLegal, Bool.or_eq_true, decide_eq_true_eq] at h
  obtain ((rfl | rfl) | rfl) | rfl := h <;> rfl

theorem lsqEntryOf_isStore (kl : OpClass) (p : DispatchWords) (seq : Word) : (lsqEntryOf kl p seq).isStore = kl.isStore := rfl

theorem FedStep.replays {c : BitVec 8} {f : Fed} {s u : State} (h : FedStep c f s u) :
    ((fedMem f s).filter (fun e => e.isStore)).map Entry.replay = fedReplays s.cfg [f] := by
  cases hstore : (classify s.cfg f.2.1.opcode).isStore with
  | true =>
    have hmem : isMem (classify s.cfg f.2.1.opcode) = true := by rw [isMem, hstore, Bool.or_true]
    have hentry : (lsqEntryOf (classify s.cfg f.2.1.opcode) f.2.1 s.eng.nextSeq).replay = fedReplay f := by
      simp only [Entry.replay, fedReplay, lsqEntryOf, hstore, if_true, toNat_setWidth_of_sizeLegal (h.fits hmem)]
    rw [fedMem, if_pos hmem, fedReplays_cons_of_store hstore, List.filter_singleton, lsqEntryOf_isStore, hstore]
    exact congrArg ([·]) hentry
  | false =>
    have hno : ∀ e ∈ fedMem f s, e.isStore = false := fun e he => by
      rw [fedMem] at he
      split at he
      · rw [List.mem_singleton.mp he]
        exact hstore
      · cases he
    rw [List.filter_eq_nil_iff.mpr fun e he => by simp [hno e he],
      fedReplays_cons_of_not_store (by rw [hstore]; exact Bool.false_ne_true)]
    rfl

theorem dispatchAll_replays {c : BitVec 8} : ∀ {l : List Fed} {s u : State}, EngineSound s → s.latch.set = false →
    dispatchAll c l s = some u → ∃ M, liveEntries (u.ctx c.toNat) .lsq = liveEntries (s.ctx c.toNat) .lsq ++ M
      ∧ (M.filter (fun e => e.isStore)).map Entry.replay = fedReplays s.cfg l
      ∧ u.env.mem = s.env.mem.writeAll (fedWrites l) := by
  intro l
  induction l with
  | nil =>
    intro s u _ _ h
    cases h
    exact ⟨[], (List.append_nil _).symm, rfl, rfl⟩
  | cons f l ih =>
    intro s u hs hl h
    rw [dispatchAll] at h
    split at h
    · cases h
    next t hone =>
      have hstep := fedStep hs hl hone
      obtain ⟨M, hlive, hreplays, hmem⟩ := ih hstep.sound hstep.latch h
      refine ⟨fedMem f s ++ M, ?_, ?_, ?_⟩
      · rw [hlive, hstep.liveLsq, List.append_assoc]
      · rw [List.filter_append, List.map_append, hstep.replays, hreplays, hstep.cfg, fedReplays, fedReplays, ← List.map_append,
          ← List.filter_append]
        rfl
      · rw [hmem, hstep.env]
        rfl

/-- The stores undone by the squash of a run are its own, youngest first. -/
theorem FedRun.replays {c : BitVec 8} {s u : State} {E M : List Entry} {l : List Fed} (h : FedRun c s u E M)
    (hs : EngineSound s) (hl : s.latch.set = false) (hall : dispatchAll c l s = some u) :
    (undoneStores (u.ctx c.toNat) E.length).map Entry.replay = (fedReplays s.cfg l).reverse
      ∧ u.env.mem = s.env.mem.writeAll (fedWrites l) := by
  obtain ⟨M', hlive, hreplays, hmem⟩ := dispatchAll_replays hs hl hall
  obtain rfl := List.append_cancel_left (h.liveLsq.symm.trans hlive)
  refine ⟨?_, hmem⟩
  have hlen : (liveEntries (s.ctx c.toNat) .lsq).length = (s.ctx c.toNat).lsqRing.num := liveEntries_length _ .lsq
  rw [undoneStores, h.squashedMems, h.lsqNum, Nat.add_sub_cancel, h.liveLsq, List.drop_left' hlen, List.filter_reverse, List.map_reverse, hreplays]

/-- Settles O44: the stores of the run, undone in reverse, find in their shadows what they overwrote. -/
theorem rollbackRestoresMemory : Obligations.RollbackRestoresMemory := by
  intro s s1 c l w hengine hl hc ha hall haccepts hcaptured x restores
  have hs := (engineOk_iff s).mp hengine
  obtain ⟨E, M, hlen, hrun⟩ := fedRun hs hl hc ha hall
  obtain ⟨hreplays, hmem⟩ := hrun.replays hs hl hall
  have hsound : EngineSound { s1 with now := w } := hrun.sound.congr rfl rfl
  have hc1 : c.toNat < s1.cfg.numContexts := hrun.cfg ▸ hc
  have hrestores : ∀ i t, exec i { s1 with now := w } = .next t → CutBack c.toNat E.length { s1 with now := w } t → restores i := by
    intro i t hexec hcut
    refine ⟨t, hexec, hcut.ok, fun a hknown => ?_⟩
    obtain ⟨hreplayed, _⟩ := hcut.undone.memory
    rw [hreplayed, replayed_eq_writeAll]
    change (Memory.writeAll s1.env.mem ((undoneStores (s1.ctx c.toNat) E.length).map Entry.replay)).read a = _
    rw [hreplays, hmem]
    exact read_writeAll_replays hcaptured hknown
  rw [← hlen] at haccepts
  refine ⟨fun m slot gen hlive hlast => ?_, fun hempty => ?_⟩
  · have hcount := (hrun.at_now w).youngerCount hlast
    obtain ⟨_, t, hexec, hcut, _⟩ := rollbackTo_cutBack (m := m) hsound hrun.latch hc1 (hrun.live hs hc hlive) (by rwa [hcount])
    rw [hcount] at hcut
    exact hrestores _ t hexec hcut
  · have hnum : (s1.ctx c.toNat).robRing.num = E.length := by rw [hrun.robNum, hempty, Nat.zero_add]
    obtain ⟨t, hexec, hcut⟩ := flushContext_cutBack hsound hrun.latch hc1 hrun.attached (by rw [← hnum] at haccepts; exact haccepts)
    refine hrestores _ t hexec ?_
    rw [← hnum]
    exact hcut

end Sys2Proof.Machine
